-- ==== Sys2Proof/Word.lean ====
section
/-! DEFINITION. The machine word and the wrap of exact integers into it (rules R8, R16). -/

namespace Sys2Proof

/-- R8: every register value, forwarding entry, data-memory word, latch value and immediate is a 32-bit
two's-complement integer. Its signed reading is `BitVec.toInt`. -/
abbrev Word := BitVec 32

/-- R16 `wrap32(v)`: the word congruent to the exact integer `v` modulo 2^32. -/
def wrap32 (v : Int) : Word := BitVec.ofInt 32 v

/-- R7: the index of one of the 32 general registers. -/
abbrev Reg := Fin 32

end Sys2Proof
end

