-- ==== Sys2Proof/Config.lean ====
section
/-! DEFINITION. The implementation parameters and configuration inputs of rule R14. They are plain data that
State carries and no step changes (R15), so a claim about the machine holds for every value of them. -/

namespace Sys2Proof

/-- R9 to R14: the implementation parameters. -/
structure Params where
  /-- CODE_BASE, the PC of instruction 0 (R9). -/
  codeBase : Int
  /-- INSN_WIDTH, bytes per instruction slot (R9). -/
  insnWidth : Nat
  /-- DMEM_WORDS, words of data memory (R11). -/
  dmemWords : Nat
  /-- DRAIN_MARGIN, drain slots before termination (R12). -/
  drainMargin : Nat
  /-- DMEM_REPORT_WINDOW, data-memory words in the final report (R75); an OPEN parameter of the spec. -/
  reportWindow : Nat
deriving DecidableEq, Repr

/-- R15, R45: the configuration inputs, fixed before reset. -/
structure Config where
  /-- FORWARDING: operands may be taken from the forwarding table. -/
  forwarding : Bool
  /-- CYCLE_BUDGET: the most ticks a run may take. -/
  cycleBudget : Nat
  /-- TRACE: the reporter consumes the per-cycle trace; no effect on any state (R46). -/
  trace : Bool
deriving DecidableEq, Repr

/-- R10: END_PC, the first PC past the last of `n` instructions. -/
def Params.endPc (p : Params) (n : Nat) : Int := p.codeBase + p.insnWidth * n

/-- R12: TERM_PC, the PC at which the termination test fires for a program of `n` instructions. -/
def Params.termPc (p : Params) (n : Nat) : Int := p.codeBase + p.insnWidth * (n + p.drainMargin)

/-- R13: the constraints a configuration must satisfy for a program of `n` instructions
(DRAIN_MARGIN ≥ 0 holds by its type). -/
abbrev Params.Ok (p : Params) (n : Nat) : Prop :=
  1 ≤ p.insnWidth ∧ 1 ≤ p.dmemWords ∧ -2 ^ 31 ≤ p.codeBase ∧ p.codeBase ≤ p.termPc n ∧
    p.termPc n + p.insnWidth ≤ 2 ^ 31

/-- R9, R11, R12: the reference configuration's parameters. The report window has no reference value
(R75): DESIGN CHOICE, all of data memory (log entry 4). -/
def Params.reference : Params :=
  { codeBase := 4000, insnWidth := 4, dmemWords := 4096, drainMargin := 5, reportWindow := 4096 }

/-- The configuration inputs at `State.reset`: DESIGN CHOICE (log entry 3), since R14 gives them no
reference value; the budget of 200 is the convention of 95_test_vectors.md. -/
def Config.reference : Config := { forwarding := true, cycleBudget := 200, trace := false }

end Sys2Proof
end

