-- ==== Sys2Proof/Syntax.lean ====
section
/-! DEFINITION. The closed instruction set (R2): the record the loader supplies (R80) and the validated
instruction the core runs. -/

namespace Sys2Proof

/-- R2: the fourteen opcodes, in the order of their packed codes (R86). -/
inductive Opcode where
  | nop | add | sub | mul | and | or | xor | load | store | movc | bz | bnz | jump | halt
deriving DecidableEq, Repr

/-- The three register fields of a record, in the order validation visits them (R188). -/
inductive RegField where
  | rd | rs1 | rs2
deriving DecidableEq, Repr

/-- R80, R81: a decoded instruction record as the loader supplies it. Its register fields are integers:
only those its opcode uses must lie in 0..31 (R84). -/
structure Record where
  opcode : Opcode
  rd : Int
  rs1 : Int
  rs2 : Int
  imm : Word
deriving DecidableEq, Repr

/-- R2, R82: a validated instruction, one constructor per opcode, every one with all four fields of its record.
A register field of type `Reg` is one its opcode uses, so that its index is in range by construction; a
register field of type `Int` is ignored and only carried (R83). -/
inductive Instr where
  | nop (rd rs1 rs2 : Int) (imm : Word)
  | add (rd rs1 rs2 : Reg) (imm : Word)
  | sub (rd rs1 rs2 : Reg) (imm : Word)
  | mul (rd rs1 rs2 : Reg) (imm : Word)
  | and (rd rs1 rs2 : Reg) (imm : Word)
  | or (rd rs1 rs2 : Reg) (imm : Word)
  | xor (rd rs1 rs2 : Reg) (imm : Word)
  | load (rd rs1 : Reg) (rs2 : Int) (imm : Word)
  | store (rd : Int) (rs1 rs2 : Reg) (imm : Word)
  | movc (rd : Reg) (rs1 rs2 : Int) (imm : Word)
  | bz (rd rs1 rs2 : Int) (imm : Word)
  | bnz (rd rs1 rs2 : Int) (imm : Word)
  | jump (rd : Int) (rs1 : Reg) (rs2 : Int) (imm : Word)
  | halt (rd rs1 rs2 : Int) (imm : Word)
deriving DecidableEq, Repr

/-- The record an instruction was validated from: no field is lost (R80, R83). -/
def Instr.toRecord : Instr → Record
  | .nop rd rs1 rs2 imm => ⟨.nop, rd, rs1, rs2, imm⟩
  | .add rd rs1 rs2 imm => ⟨.add, rd.val, rs1.val, rs2.val, imm⟩
  | .sub rd rs1 rs2 imm => ⟨.sub, rd.val, rs1.val, rs2.val, imm⟩
  | .mul rd rs1 rs2 imm => ⟨.mul, rd.val, rs1.val, rs2.val, imm⟩
  | .and rd rs1 rs2 imm => ⟨.and, rd.val, rs1.val, rs2.val, imm⟩
  | .or rd rs1 rs2 imm => ⟨.or, rd.val, rs1.val, rs2.val, imm⟩
  | .xor rd rs1 rs2 imm => ⟨.xor, rd.val, rs1.val, rs2.val, imm⟩
  | .load rd rs1 rs2 imm => ⟨.load, rd.val, rs1.val, rs2, imm⟩
  | .store rd rs1 rs2 imm => ⟨.store, rd, rs1.val, rs2.val, imm⟩
  | .movc rd rs1 rs2 imm => ⟨.movc, rd.val, rs1, rs2, imm⟩
  | .bz rd rs1 rs2 imm => ⟨.bz, rd, rs1, rs2, imm⟩
  | .bnz rd rs1 rs2 imm => ⟨.bnz, rd, rs1, rs2, imm⟩
  | .jump rd rs1 rs2 imm => ⟨.jump, rd, rs1.val, rs2, imm⟩
  | .halt rd rs1 rs2 imm => ⟨.halt, rd, rs1, rs2, imm⟩

/-- The opcode of an instruction. -/
def Instr.op (i : Instr) : Opcode := i.toRecord.opcode

end Sys2Proof
end

