-- ==== Sys2Proof/WellFormed.lean ====
section
/-! DEFINITION. Which records pass launch validation (R82, R84), and which instructions have a packed word (R85). -/

namespace Sys2Proof

/-- R82: the register fields each opcode uses; the others are ignored (R83). -/
def Opcode.uses : Opcode → RegField → Bool
  | .add, _ | .sub, _ | .mul, _ | .and, _ | .or, _ | .xor, _ => true
  | .load, .rd | .load, .rs1 => true
  | .load, .rs2 => false
  | .store, .rs1 | .store, .rs2 => true
  | .store, .rd => false
  | .movc, .rd => true
  | .movc, .rs1 | .movc, .rs2 => false
  | .jump, .rs1 => true
  | .jump, .rd | .jump, .rs2 => false
  | .bz, _ | .bnz, _ | .halt, _ | .nop, _ => false

/-- The value of one register field of a record. -/
def Record.field (r : Record) : RegField → Int
  | .rd => r.rd
  | .rs1 => r.rs1
  | .rs2 => r.rs2

/-- R84: the range of a register index. -/
abbrev InRegRange (v : Int) : Prop := 0 ≤ v ∧ v ≤ 31

/-- R84: every register field the record's opcode uses lies in 0..31. -/
abbrev Record.WellFormed (r : Record) : Prop :=
  (r.opcode.uses .rd = true → InRegRange r.rd) ∧ (r.opcode.uses .rs1 = true → InRegRange r.rs1) ∧
    (r.opcode.uses .rs2 = true → InRegRange r.rs2)

/-- R85: the ignored register fields fit their five bits too, so that the instruction has a packed word. (The used
ones always fit: they are of type `Reg`. An instruction that is not well-formed in this sense still runs: R83.) -/
abbrev Instr.WellFormed (i : Instr) : Prop :=
  InRegRange i.toRecord.rd ∧ InRegRange i.toRecord.rs1 ∧ InRegRange i.toRecord.rs2

end Sys2Proof
end

