-- ==== Sys2Proof/Decode.lean ====
section
/-! DEFINITION. Validation of records (R84), the packed 64-bit form (R85 to R88), and the encoder. -/

namespace Sys2Proof

/-! ### Records -/

/-- R84: a register index in range, or the field and value that the bounds check names. -/
def checkReg (f : RegField) (v : Int) : Except (RegField × Int) Reg :=
  if v < 0 ∨ 31 < v then .error (f, v) else .ok (Fin.ofNat 32 v.toNat)

/-- A record of an opcode that uses rd, rs1 and rs2 (R82), checked in that order (R188). -/
def Record.threeReg (r : Record) (mk : Reg → Reg → Reg → Word → Instr) : Except (RegField × Int) Instr :=
  match checkReg .rd r.rd, checkReg .rs1 r.rs1, checkReg .rs2 r.rs2 with
  | .error e, _, _ => .error e
  | .ok _, .error e, _ => .error e
  | .ok _, .ok _, .error e => .error e
  | .ok d, .ok a, .ok b => .ok (mk d a b r.imm)

/-- R84, R188: validate one record: the instruction, or the first used register field out of range, in the order
rd, rs1, rs2. An ignored field is not checked (R83). -/
def Record.toInstr (r : Record) : Except (RegField × Int) Instr :=
  match r.opcode with
  | .nop => .ok (.nop r.rd r.rs1 r.rs2 r.imm)
  | .add => r.threeReg .add
  | .sub => r.threeReg .sub
  | .mul => r.threeReg .mul
  | .and => r.threeReg .and
  | .or => r.threeReg .or
  | .xor => r.threeReg .xor
  | .load =>
    match checkReg .rd r.rd, checkReg .rs1 r.rs1 with
    | .error e, _ => .error e
    | .ok _, .error e => .error e
    | .ok d, .ok a => .ok (.load d a r.rs2 r.imm)
  | .store =>
    match checkReg .rs1 r.rs1, checkReg .rs2 r.rs2 with
    | .error e, _ => .error e
    | .ok _, .error e => .error e
    | .ok a, .ok b => .ok (.store r.rd a b r.imm)
  | .movc =>
    match checkReg .rd r.rd with
    | .error e => .error e
    | .ok d => .ok (.movc d r.rs1 r.rs2 r.imm)
  | .bz => .ok (.bz r.rd r.rs1 r.rs2 r.imm)
  | .bnz => .ok (.bnz r.rd r.rs1 r.rs2 r.imm)
  | .jump =>
    match checkReg .rs1 r.rs1 with
    | .error e => .error e
    | .ok a => .ok (.jump r.rd a r.rs2 r.imm)
  | .halt => .ok (.halt r.rd r.rs1 r.rs2 r.imm)

/-! ### Packed words -/

/-- R86: the opcode numbers. -/
def Opcode.code : Opcode → BitVec 4
  | .nop => 0
  | .add => 1
  | .sub => 2
  | .mul => 3
  | .and => 4
  | .or => 5
  | .xor => 6
  | .load => 7
  | .store => 8
  | .movc => 9
  | .bz => 10
  | .bnz => 11
  | .jump => 12
  | .halt => 13

/-- R86 read backwards; codes 14 and 15 are reserved. -/
def Opcode.ofCode (c : BitVec 4) : Option Opcode :=
  match c.toNat with
  | 0 => some .nop
  | 1 => some .add
  | 2 => some .sub
  | 3 => some .mul
  | 4 => some .and
  | 5 => some .or
  | 6 => some .xor
  | 7 => some .load
  | 8 => some .store
  | 9 => some .movc
  | 10 => some .bz
  | 11 => some .bnz
  | 12 => some .jump
  | 13 => some .halt
  | _ => none

/-- R88: why a packed word is illegal. -/
inductive DecodeError where
  /-- bits[12:0] are not all zero -/
  | reservedBits
  /-- the opcode field is 14 or 15 -/
  | reservedOpcode
deriving DecidableEq, Repr

/-- R85: bits[63:32] of a packed word. -/
def immField (w : BitVec 64) : Word := w.extractLsb' 32 32

/-- R85: bits[31:28] of a packed word. -/
def opcodeField (w : BitVec 64) : BitVec 4 := w.extractLsb' 28 4

/-- R85: the five-bit register field whose lowest bit is bit `lo` of a packed word. -/
def regField (w : BitVec 64) (lo : Nat) : Reg := (w.extractLsb' lo 5).toFin

/-- R85: bits[12:0] of a packed word, which must be zero. -/
def reservedField (w : BitVec 64) : BitVec 13 := w.extractLsb' 0 13

/-- The instruction of an opcode with the given fields, the ignored register fields carried as integers (R83). -/
def Instr.ofFields (op : Opcode) (rd rs1 rs2 : Reg) (imm : Word) : Instr :=
  match op with
  | .nop => .nop rd.val rs1.val rs2.val imm
  | .add => .add rd rs1 rs2 imm
  | .sub => .sub rd rs1 rs2 imm
  | .mul => .mul rd rs1 rs2 imm
  | .and => .and rd rs1 rs2 imm
  | .or => .or rd rs1 rs2 imm
  | .xor => .xor rd rs1 rs2 imm
  | .load => .load rd rs1 rs2.val imm
  | .store => .store rd.val rs1 rs2 imm
  | .movc => .movc rd rs1.val rs2.val imm
  | .bz => .bz rd.val rs1.val rs2.val imm
  | .bnz => .bnz rd.val rs1.val rs2.val imm
  | .jump => .jump rd.val rs1 rs2.val imm
  | .halt => .halt rd.val rs1.val rs2.val imm

/-- R85 to R88: decode a packed word, total on every 64-bit word. -/
def decode (w : BitVec 64) : Except DecodeError Instr :=
  if reservedField w ≠ 0 then .error .reservedBits
  else
    match Opcode.ofCode (opcodeField w) with
    | none => .error .reservedOpcode
    | some op => .ok (.ofFields op (regField w 23) (regField w 18) (regField w 13) (immField w))

/-- R85, R86: the packed word of an instruction, imm then opcode, rd, rs1, rs2 and thirteen zeros. Meant for an
`Instr.WellFormed` one: a register field outside 0..31 has no five-bit form. -/
def encode (i : Instr) : BitVec 64 :=
  i.toRecord.imm ++ i.toRecord.opcode.code ++ BitVec.ofInt 5 i.toRecord.rd ++ BitVec.ofInt 5 i.toRecord.rs1 ++
    BitVec.ofInt 5 i.toRecord.rs2 ++ (0 : BitVec 13)

/-- The instruction of a row of spec/opcode_table.json given as a number with `nbits` bits: bit 0 of the number is
bit 0 of the packed word (R85), and every bit above `nbits` is zero. -/
def decodeTableWord (nbits w : Nat) : Option Instr :=
  match decode (BitVec.ofNat 64 (w % 2 ^ nbits)) with
  | .ok i => some i
  | .error _ => none

end Sys2Proof
end

