-- ==== Sys2Proof/Machine/State.lean ====
section
/-! DEFINITION. The machine's state as plain data, the reasons a step can stop, and the state right after reset
(10_state.md, R180). -/

namespace Sys2Proof.Machine

/-- R180: the five fault kinds with the information each records. Every one ends the run (R181): a `Host.Outcome.fault`
carries no next state, so the faulting tick is discarded whole and the state to report is the one the step began
in. Stopping is safe: no claim about a next state can rest on it. -/
inductive Fault where
  /-- Code 1. Raised by launch validation for a used register field outside 0..31 (R182): record, field, value. Safe. -/
  | boundsError (k : Nat) (field : RegField) (value : Int)
  /-- Code 2. Raised by launch validation for an illegal packed word (R183): record, word. Safe. -/
  | illegalEncoding (k : Nat) (word : BitVec 64)
  /-- Code 3. Raised by LOAD and STORE in the Memory stage for an address outside [0, DMEM_WORDS) (R184): the
  instruction's pc, the effective word address. Safe. -/
  | dataAddressOutOfRange (pc : Word) (addr : Word)
  /-- Code 4. Raised by Fetch for a PC below CODE_BASE (R185). Safe. -/
  | fetchOutOfRange (pc : Word)
  /-- Code 5. Raised by Fetch for a PC off the INSN_WIDTH grid (R185). Safe. -/
  | fetchMisaligned (pc : Word)
deriving DecidableEq, Repr

/-- Why a run is not started at all. -/
inductive Refusal where
  /-- Raised by an arm of `exec` whose instruction has no meaning yet; no arm raises it in this model. Safe. -/
  | notModelled (mnemonic : String)
  /-- Raised by the launch for parameters that break a constraint of R13: the run does not start. Safe. -/
  | parameterConstraint
  /-- Raised by the launch for a report window larger than the data memory (R75). Safe. -/
  | reportWindowTooLarge
deriving DecidableEq, Repr

/-- R101: the five stages, in the order a tick evaluates them. -/
inductive Stage where
  | writeback | memory | execute | decode | fetch
deriving DecidableEq, Repr

/-- R180: the run's status. A fault is no value of this type: it is the step's outcome (R181), and
`Machine.statusPort` reports it. `launching` is the time before reset, when the host has supplied its inputs (R200
step 1); `running` onwards are the spec's. -/
inductive Status where
  | launching | running | completed | budgetExhausted
deriving DecidableEq, Repr

/-- R40: one pipeline latch. Its `instr` holds the fields op, rd, rs1, rs2 and imm. -/
structure Latch where
  instr : Instr
  /-- the address the instruction was fetched from -/
  pc : Word
  rs1Value : Word
  rs2Value : Word
  memAddress : Word
  /-- the result, or the JUMP target -/
  buffer : Word
  /-- R41: not yet primed -/
  busy : Bool
  /-- R42: holding its contents into the next tick -/
  stalled : Bool
deriving DecidableEq, Repr

/-- R19, R44: `bubble()`. -/
def Latch.bubble : Latch :=
  { instr := .nop 0 0 0 0, pc := 0, rs1Value := 0, rs2Value := 0, memAddress := 0, buffer := 0, busy := false, stalled := false }

/-- R41, R48: the bubble with busy = true that D, X, M and W hold at reset. -/
def Latch.unprimed : Latch := { Latch.bubble with busy := true }

/-- R61, R200: one slot of the instruction memory as the host supplied it, a decoded record or a packed word. -/
inductive Slot where
  | record (r : Record)
  | packed (w : BitVec 64)
deriving DecidableEq, Repr

/-- R63: the data memory, as its listed (word address, word) pairs: addresses strictly rising, no word equal to
`Memory.blank` listed (`Memory.wf`). A cell is a whole word because the spec addresses words and gives no view of
their bytes (R63, R65; log entry 6). -/
abbrev Memory := List (Nat × Word)

/-- What an unlisted data-memory word reads as: 0, the reference value of DMEM_init (R14, R48). -/
def Memory.blank : Word := 0

/-- The whole machine (10_state.md, 20_memory.md): everything the spec names, and `turn`, the model's own. -/
structure State where
  /-- R180 -/
  status : Status
  /-- R14; no step changes it -/
  params : Params
  /-- R45; no step changes it -/
  config : Config
  /-- R61; no step changes it -/
  imem : List Slot
  /-- R30: x[0..31] -/
  regs : Vector Word 32
  /-- R30: the validity bits -/
  valid : Vector Bool 32
  /-- R34: the forwarding table -/
  fwd : Vector Word 32
  /-- R36: the zero flag -/
  z : Bool
  /-- R63: the data memory -/
  dmem : Memory
  /-- R37: the program counter, a signed byte address -/
  pc : Word
  /-- R38: the cycle counter -/
  cyc : Nat
  /-- R39: the completed-instruction counter -/
  done : Nat
  /-- R40: the Fetch latch F -/
  latchF : Latch
  /-- R40: the Decode latch D -/
  latchD : Latch
  /-- R40: the Execute latch X -/
  latchX : Latch
  /-- R40: the Memory latch M -/
  latchM : Latch
  /-- R40: the Writeback latch W -/
  latchW : Latch
  /-- The model's own field (log entry 1): the stage whose turn it is within a tick (R101). Between ticks it is
  `fetch`, the last stage a tick evaluates. -/
  turn : Stage
deriving DecidableEq, Repr

/-- R10: N, the number of instruction records. -/
def State.progLen (s : State) : Nat := s.imem.length

/-- R48 with the reference launch (R202: R_init, Z_init and DMEM_init all 0) and an empty instruction memory: no
program is loaded yet (log entry 2). -/
def State.reset : State :=
  { status := .running
    params := Params.reference
    config := Config.reference
    imem := []
    regs := Vector.replicate 32 0
    valid := Vector.replicate 32 true
    fwd := Vector.replicate 32 0
    z := false
    dmem := []
    pc := 4000
    cyc := 0
    done := 0
    latchF := Latch.bubble
    latchD := Latch.unprimed
    latchX := Latch.unprimed
    latchM := Latch.unprimed
    latchW := Latch.unprimed
    turn := .fetch }

end Sys2Proof.Machine
end

