-- ==== Sys2Proof/Machine/Flags.lean ====
section
/-! DEFINITION. The only flag, Z (R36, R143). -/

namespace Sys2Proof.Machine

/-- R104: `setZ(v)`: Z is 1 exactly when the 32-bit result is 0. -/
def setZ (v : Word) (s : State) : State := { s with z := v == 0 }

end Sys2Proof.Machine
end

