-- ==== Sys2Proof/Machine/Operands.lean ====
section
/-! DEFINITION. The hazard and forwarding unit (R108 to R112): pure decisions over the state, and the address arithmetic
of the operand forms (R89). -/

namespace Sys2Proof.Machine

/-- R19: `is_arith(op)`. -/
def isArith : Opcode → Bool
  | .add | .sub | .mul => true
  | .and | .or | .xor | .load | .store | .movc | .bz | .bnz | .jump | .halt | .nop => false

/-- R19: the destination register of an instruction with `writes_rd(op)`; none for the others. -/
def destOf : Instr → Option Reg
  | .add rd _ _ _ | .sub rd _ _ _ | .mul rd _ _ _ | .and rd _ _ _ | .or rd _ _ _ | .xor rd _ _ _ => some rd
  | .load rd _ _ _ => some rd
  | .movc rd _ _ _ => some rd
  | .store _ _ _ _ | .bz _ _ _ _ | .bnz _ _ _ _ | .jump _ _ _ _ | .halt _ _ _ _ | .nop _ _ _ _ => none

/-- The source register fields an instruction reads in Decode. -/
structure Sources where
  rs1 : Option Reg
  rs2 : Option Reg
deriving DecidableEq, Repr

/-- R108: `Sources(op)`. -/
def sourcesOf : Instr → Sources
  | .add _ a b _ | .sub _ a b _ | .mul _ a b _ | .and _ a b _ | .or _ a b _ | .xor _ a b _ => ⟨some a, some b⟩
  | .load _ a _ _ => ⟨some a, none⟩
  | .store _ a b _ => ⟨some a, some b⟩
  | .jump _ a _ _ => ⟨some a, none⟩
  | .movc _ _ _ _ | .bz _ _ _ _ | .bnz _ _ _ _ | .halt _ _ _ _ | .nop _ _ _ _ => ⟨none, none⟩

/-- R109, R161: whether an instruction is a LOAD whose destination is `r`. -/
def isLoadOf (i : Instr) (r : Reg) : Bool :=
  match i with
  | .load rd _ _ _ => rd == r
  | .add _ _ _ _ | .sub _ _ _ _ | .mul _ _ _ _ | .and _ _ _ _ | .or _ _ _ _ | .xor _ _ _ _ | .store _ _ _ _
  | .movc _ _ _ _ | .bz _ _ _ _ | .bnz _ _ _ _ | .jump _ _ _ _ | .halt _ _ _ _ | .nop _ _ _ _ => false

/-- R17: `x[r]`. -/
def readReg (s : State) (r : Reg) : Word := s.regs.get r

/-- R17: `valid[r]`. -/
def isValid (s : State) (r : Reg) : Bool := s.valid.get r

/-- R17: `FWD[r]`. -/
def fwdEntry (s : State) (r : Reg) : Word := s.fwd.get r

/-- R109: what the unit answers for a source register. -/
inductive Operand where
  | ready (v : Word)
  | stall
deriving DecidableEq, Repr

/-- R109: `ResolveOperand(r)`. -/
def resolveOperand (s : State) (r : Reg) : Operand :=
  if isValid s r then .ready (readReg s r)
  else if s.config.forwarding then
    if isLoadOf s.latchX.instr r then .stall else .ready (fwdEntry s r)
  else .stall

/-- R120: a source field of the instruction in Decode: resolved when the opcode reads it, and otherwise the value
field keeps what it holds. -/
def resolveField (s : State) (field : Option Reg) (held : Word) : Operand :=
  match field with
  | some r => resolveOperand s r
  | none => .ready held

/-- R110: `BranchHazard()`. -/
def branchHazard (s : State) : Bool :=
  if s.config.forwarding then isArith s.latchX.instr.op || isArith s.latchM.instr.op || isArith s.latchW.instr.op
  else !s.latchD.stalled

/-- R111: the destination check (write after write). -/
def destHazard (s : State) (dest : Option Reg) : Bool :=
  match dest with
  | some r => !isValid s r
  | none => false

/-- R16: exact sum, wrapped. -/
def addWrap (a b : Word) : Word := wrap32 (a.toInt + b.toInt)

/-- R16: exact difference, wrapped. -/
def subWrap (a b : Word) : Word := wrap32 (a.toInt - b.toInt)

/-- R16: exact product, wrapped: its low 32 bits (R142). -/
def mulWrap (a b : Word) : Word := wrap32 (a.toInt * b.toInt)

/-- R64: the data-memory word a signed effective address names, if it is in range. -/
def dataIndex (s : State) (a : Word) : Option Nat :=
  if 0 ≤ a.toInt ∧ a.toInt < s.params.dmemWords then some a.toInt.toNat else none

/-- R10: END_PC of the loaded program. -/
def endPc (s : State) : Int := s.params.endPc s.progLen

/-- R12: TERM_PC of the loaded program. -/
def termPc (s : State) : Int := s.params.termPc s.progLen

end Sys2Proof.Machine
end

