-- ==== Sys2Proof/Machine/Ops.lean ====
section
/-! DEFINITION. The named operations the instruction rules share: data memory (R18), registers and forwarding (R104),
latches (R19, R104), the fault mechanism (R181), and the Decode and Fetch turns (R118, R120). -/

namespace Sys2Proof.Machine

/-- What a stage's turn, a tick and a step answer. -/
abbrev Result := Host.Outcome State Fault Refusal

/-- R20, R181: go on with `f` in the state reached, unless the run has stopped. -/
def andThen (o : Result) (f : State → Result) : Result :=
  match o with
  | .next s => f s
  | .fault r => .fault r
  | .refused r => .refused r

/-- R181: `raise Fault(kind, info)`, the only fault mechanism. It ends the run. There is no handler to enter and
nothing to return from (R190). -/
def raise (f : Fault) : Result := .fault f

/-! ### Data memory -/

/-- R18: `MemRead(a, 1)`. -/
def Memory.read : Memory → Nat → Word
  | [], _ => Memory.blank
  | (b, v) :: rest, a => if a = b then v else Memory.read rest a

/-- List `(a, v)` in front of `rest`, unless an unlisted word already reads as `v`. -/
def Memory.cons (a : Nat) (v : Word) (rest : Memory) : Memory := if v = Memory.blank then rest else (a, v) :: rest

/-- R18: `MemWrite(a, 1, v)`, keeping the canonical form. -/
def Memory.write : Memory → Nat → Word → Memory
  | [], a, v => Memory.cons a v []
  | (b, u) :: rest, a, v =>
    if a < b then Memory.cons a v ((b, u) :: rest)
    else if a = b then Memory.cons a v rest
    else (b, u) :: Memory.write rest a v

/-- The canonical form from address `lo` on: addresses rise strictly and no blank word is listed. -/
def Memory.wfFrom : Nat → Memory → Bool
  | _, [] => true
  | lo, (a, v) :: rest => decide (lo ≤ a) && v != Memory.blank && Memory.wfFrom (a + 1) rest

/-- The canonical form of a memory, so that memories that read alike are equal data. -/
def Memory.wf (m : Memory) : Bool := Memory.wfFrom 0 m

/-- R63: every listed word lies below DMEM_WORDS. -/
def Memory.below (n : Nat) (m : Memory) : Bool := m.all fun c => decide (c.1 < n)

/-! ### Registers and the forwarding table -/

/-- R104: `publish`: FWD[r] <- v. -/
def publish (r : Reg) (v : Word) (s : State) : State := { s with fwd := s.fwd.set r v }

/-- R104: `commit`: x[r] <- v, valid[r] <- true, FWD[r] <- v. -/
def commit (r : Reg) (v : Word) (s : State) : State :=
  { s with regs := s.regs.set r v, valid := s.valid.set r true, fwd := s.fwd.set r v }

/-- R121: reserve a destination, if there is one: valid[r] <- false. -/
def reserve (dest : Option Reg) (s : State) : State :=
  match dest with
  | some r => { s with valid := s.valid.set r false }
  | none => s

/-- R104: `release(L)`: restore the validity that a flushed instruction had reserved. -/
def release (l : Latch) (s : State) : State :=
  match l.busy, destOf l.instr with
  | false, some r => { s with valid := s.valid.set r true }
  | false, none => s
  | true, _ => s

/-! ### Latches -/

/-- R19: `frozen_bubble()`. -/
def frozenBubble : Latch := { Latch.bubble with stalled := true }

/-- R104: flush F, D and X, as every taken transfer does (R170, R171, R172). -/
def flushYounger (s : State) : State :=
  { s with latchF := Latch.bubble, latchD := Latch.bubble, latchX := Latch.bubble }

/-- R173: freeze F and D, HALT's Execute action. -/
def freezeFetchDecode (s : State) : State := { s with latchF := frozenBubble, latchD := frozenBubble }

/-- R173: freeze X, HALT's Memory action. -/
def freezeExecute (s : State) : State := { s with latchX := frozenBubble }

/-- R173: freeze M, part of HALT's Writeback action. -/
def freezeMemory (s : State) : State := { s with latchM := frozenBubble }

/-- R124: the Execute stage's normal completion ("advance"): M <- copy(X). -/
def advanceExecute (s : State) : State := { s with latchM := s.latchX }

/-- R124: the Execute stage holds its instruction ("hold"): M <- bubble(). -/
def holdExecute (s : State) : State := { s with latchM := Latch.bubble }

/-- R126: the Memory stage's completion: W <- copy(M). -/
def advanceMemory (s : State) : State := { s with latchW := s.latchM }

/-- R37: PC <- target, wrapped. -/
def setPc (target : Word) (s : State) : State := { s with pc := target }

/-! ### The Execute and Memory turns that several instructions share -/

/-- R140, R141: ADD's and SUB's Execute action with result `v`: buffer, Z, publish, advance. -/
def executeArith (rd : Reg) (v : Word) (s : State) : State :=
  advanceExecute (publish rd v (setZ v { s with latchX := { s.latchX with buffer := v } }))

/-- R150 to R153: the Execute action of AND, OR, XOR and MOVC with result `v`: buffer, publish, advance; Z is untouched. -/
def executeLogic (rd : Reg) (v : Word) (s : State) : State :=
  advanceExecute (publish rd v { s with latchX := { s.latchX with buffer := v } })

/-- R140 to R142, R150 to R153: the Memory action of every instruction that leaves Execute with its result: publish,
then the copy to W. -/
def memoryPublish (rd : Reg) (s : State) : State := advanceMemory (publish rd s.latchM.buffer s)

/-- R140 to R142: the Writeback action of an arithmetic instruction. -/
def writebackArith (rd : Reg) (s : State) : State := setZ s.latchW.buffer (commit rd s.latchW.buffer s)

/-- R170, R171: the Memory action of a branch: when taken, redirect, release X, flush F, D and X; then the copy to W. -/
def memoryBranch (taken : Bool) (imm : Word) (s : State) : State :=
  advanceMemory
    (if taken then flushYounger (release s.latchX (setPc (addWrap s.latchM.pc imm) s)) else s)

/-! ### The Decode turn -/

/-- R120: a hazard: hold the instruction in D and insert a bubble into X. -/
def stallDecode (s : State) : State :=
  { s with latchD := { s.latchD with stalled := true }, latchX := Latch.bubble }

/-- R120: no hazard: take the operand values, reserve the destination, and copy D into X. -/
def forwardDecode (a b : Word) (dest : Option Reg) (s : State) : State :=
  let d := { s.latchD with rs1Value := a, rs2Value := b, stalled := false }
  { reserve dest s with latchD := d, latchX := d }

/-- R120: the Decode turn of every instruction but NOP, with its sources (R108), its destination (R111) and its
branch test (R110). While X is stalled the instruction waits and X is not written. -/
def decodeTurn (sources : Sources) (dest : Option Reg) (branchTest : Bool) (s : State) : State :=
  if s.latchX.stalled then { s with latchD := { s.latchD with stalled := true } }
  else
    match resolveField s sources.rs1 s.latchD.rs1Value, resolveField s sources.rs2 s.latchD.rs2Value with
    | .ready a, .ready b =>
      if branchTest || destHazard s dest then stallDecode s else forwardDecode a b dest s
    | .ready _, .stall => stallDecode s
    | .stall, _ => stallDecode s

/-- R120, R122: the Decode turn of a NOP: copied into X unless X is stalled; it never stalls. -/
def decodeNop (s : State) : State := if s.latchX.stalled then s else { s with latchX := s.latchD }

/-! ### The Fetch turn -/

/-- R118: the fetched instruction `i` enters F, PC advances, and F is pushed into D, unless D is stalled: then F holds. -/
def fetchTurn (i : Instr) (s : State) : State :=
  let f : Latch := { Latch.bubble with instr := i, pc := s.pc }
  let pc := wrap32 (s.pc.toInt + s.params.insnWidth)
  if s.latchD.stalled then { s with latchF := { f with stalled := true }, pc := pc }
  else { s with latchF := f, latchD := f, pc := pc }

end Sys2Proof.Machine
end

