-- ==== Sys2Proof/Machine/Arithmetic.lean ====
section
/-! DEFINITION. ADD, SUB and MUL (41_arithmetic.md), each in the five stages' turns. -/

namespace Sys2Proof.Machine

/-- R140. -/
def execAdd (rd rs1 rs2 : Reg) (imm : Word) (s : State) : Result :=
  match s.turn with
  | .fetch => .next (fetchTurn (.add rd rs1 rs2 imm) s)
  | .decode => .next (decodeTurn ⟨some rs1, some rs2⟩ (some rd) false s)
  | .execute => .next (executeArith rd (addWrap s.latchX.rs1Value s.latchX.rs2Value) s)
  | .memory => .next (memoryPublish rd s)
  | .writeback => .next (writebackArith rd s)

/-- R141: rs1 − rs2. -/
def execSub (rd rs1 rs2 : Reg) (imm : Word) (s : State) : Result :=
  match s.turn with
  | .fetch => .next (fetchTurn (.sub rd rs1 rs2 imm) s)
  | .decode => .next (decodeTurn ⟨some rs1, some rs2⟩ (some rd) false s)
  | .execute => .next (executeArith rd (subWrap s.latchX.rs1Value s.latchX.rs2Value) s)
  | .memory => .next (memoryPublish rd s)
  | .writeback => .next (writebackArith rd s)

/-- R142: the first Execute cycle computes and holds. -/
def mulFirstCycle (s : State) : State :=
  holdExecute
    { s with
      latchX := { s.latchX with buffer := mulWrap s.latchX.rs1Value s.latchX.rs2Value, stalled := true } }

/-- R142: `MulSecondCycle()`: publish, Z, and advance to M. -/
def mulSecondCycle (rd : Reg) (s : State) : State :=
  advanceExecute
    (let t := setZ s.latchX.buffer (publish rd s.latchX.buffer s)
     { t with latchX := { t.latchX with stalled := false } })

/-- R142. -/
def execMul (rd rs1 rs2 : Reg) (imm : Word) (s : State) : Result :=
  match s.turn with
  | .fetch => .next (fetchTurn (.mul rd rs1 rs2 imm) s)
  | .decode => .next (decodeTurn ⟨some rs1, some rs2⟩ (some rd) false s)
  | .execute => .next (if s.latchX.stalled then mulSecondCycle rd s else mulFirstCycle s)
  | .memory => .next (memoryPublish rd s)
  | .writeback => .next (writebackArith rd s)

end Sys2Proof.Machine
end

