-- ==== Sys2Proof/Machine/Bitwise.lean ====
section
/-! DEFINITION. AND, OR, XOR and MOVC (42_bitwise_movc.md), each in the five stages' turns. None writes Z. -/

namespace Sys2Proof.Machine

/-- R150. -/
def execAnd (rd rs1 rs2 : Reg) (imm : Word) (s : State) : Result :=
  match s.turn with
  | .fetch => .next (fetchTurn (.and rd rs1 rs2 imm) s)
  | .decode => .next (decodeTurn ⟨some rs1, some rs2⟩ (some rd) false s)
  | .execute => .next (executeLogic rd (s.latchX.rs1Value &&& s.latchX.rs2Value) s)
  | .memory => .next (memoryPublish rd s)
  | .writeback => .next (commit rd s.latchW.buffer s)

/-- R151. -/
def execOr (rd rs1 rs2 : Reg) (imm : Word) (s : State) : Result :=
  match s.turn with
  | .fetch => .next (fetchTurn (.or rd rs1 rs2 imm) s)
  | .decode => .next (decodeTurn ⟨some rs1, some rs2⟩ (some rd) false s)
  | .execute => .next (executeLogic rd (s.latchX.rs1Value ||| s.latchX.rs2Value) s)
  | .memory => .next (memoryPublish rd s)
  | .writeback => .next (commit rd s.latchW.buffer s)

/-- R152. -/
def execXor (rd rs1 rs2 : Reg) (imm : Word) (s : State) : Result :=
  match s.turn with
  | .fetch => .next (fetchTurn (.xor rd rs1 rs2 imm) s)
  | .decode => .next (decodeTurn ⟨some rs1, some rs2⟩ (some rd) false s)
  | .execute => .next (executeLogic rd (s.latchX.rs1Value ^^^ s.latchX.rs2Value) s)
  | .memory => .next (memoryPublish rd s)
  | .writeback => .next (commit rd s.latchW.buffer s)

/-- R153: the result is the immediate; it is published in Execute too (90_conflicts.md C3). -/
def execMovc (rd : Reg) (rs1 rs2 : Int) (imm : Word) (s : State) : Result :=
  match s.turn with
  | .fetch => .next (fetchTurn (.movc rd rs1 rs2 imm) s)
  | .decode => .next (decodeTurn ⟨none, none⟩ (some rd) false s)
  | .execute => .next (executeLogic rd imm s)
  | .memory => .next (memoryPublish rd s)
  | .writeback => .next (commit rd s.latchW.buffer s)

end Sys2Proof.Machine
end

