-- ==== Sys2Proof/Machine/Control.lean ====
section
/-! DEFINITION. BZ, BNZ, JUMP, HALT and NOP (44_control.md), each in the five stages' turns. -/

namespace Sys2Proof.Machine

/-- R170, R175: taken exactly when Z = 1. -/
def execBz (rd rs1 rs2 : Int) (imm : Word) (s : State) : Result :=
  match s.turn with
  | .fetch => .next (fetchTurn (.bz rd rs1 rs2 imm) s)
  | .decode => .next (decodeTurn ⟨none, none⟩ none (branchHazard s) s)
  | .execute => .next (advanceExecute s)
  | .memory => .next (memoryBranch s.z imm s)
  | .writeback => .next s

/-- R171, R175: taken exactly when Z = 0. -/
def execBnz (rd rs1 rs2 : Int) (imm : Word) (s : State) : Result :=
  match s.turn with
  | .fetch => .next (fetchTurn (.bnz rd rs1 rs2 imm) s)
  | .decode => .next (decodeTurn ⟨none, none⟩ none (branchHazard s) s)
  | .execute => .next (advanceExecute s)
  | .memory => .next (memoryBranch (!s.z) imm s)
  | .writeback => .next s

/-- R172: the Memory action of JUMP: redirect to the target in `buffer`, release D and X, flush F, D and X, copy to W. -/
def jumpMemory (s : State) : State :=
  advanceMemory (flushYounger (release s.latchX (release s.latchD (setPc s.latchM.buffer s))))

/-- R172. -/
def execJump (rd : Int) (rs1 : Reg) (rs2 : Int) (imm : Word) (s : State) : Result :=
  match s.turn with
  | .fetch => .next (fetchTurn (.jump rd rs1 rs2 imm) s)
  | .decode => .next (decodeTurn ⟨some rs1, none⟩ none false s)
  | .execute =>
    .next (advanceExecute { s with latchX := { s.latchX with buffer := addWrap s.latchX.rs1Value imm } })
  | .memory => .next (jumpMemory s)
  | .writeback => .next s

/-- R173. -/
def execHalt (rd rs1 rs2 : Int) (imm : Word) (s : State) : Result :=
  match s.turn with
  | .fetch => .next (fetchTurn (.halt rd rs1 rs2 imm) s)
  | .decode => .next (decodeTurn ⟨none, none⟩ none false s)
  | .execute => .next (advanceExecute (freezeFetchDecode s))
  | .memory => .next (advanceMemory (freezeExecute s))
  | .writeback => .next (freezeMemory (setPc (wrap32 (termPc s)) s))

/-- R174: no effect but its passage through the latches. -/
def execNop (rd rs1 rs2 : Int) (imm : Word) (s : State) : Result :=
  match s.turn with
  | .fetch => .next (fetchTurn (.nop rd rs1 rs2 imm) s)
  | .decode => .next (decodeNop s)
  | .execute => .next (advanceExecute s)
  | .memory => .next (advanceMemory s)
  | .writeback => .next s

end Sys2Proof.Machine
end

