-- ==== Sys2Proof/Machine/LoadStore.lean ====
section
/-! DEFINITION. LOAD and STORE (43_load_store.md), each in the five stages' turns. -/

namespace Sys2Proof.Machine

/-- R160: the Memory action of LOAD: read the word, publish it, copy to W; or the fault of R184. -/
def loadMemory (rd : Reg) (s : State) : Result :=
  match dataIndex s s.latchM.memAddress with
  | none => raise (.dataAddressOutOfRange s.latchM.pc s.latchM.memAddress)
  | some k => .next (memoryPublish rd { s with latchM := { s.latchM with buffer := s.dmem.read k } })

/-- R160. -/
def execLoad (rd rs1 : Reg) (rs2 : Int) (imm : Word) (s : State) : Result :=
  match s.turn with
  | .fetch => .next (fetchTurn (.load rd rs1 rs2 imm) s)
  | .decode => .next (decodeTurn ⟨some rs1, none⟩ (some rd) false s)
  | .execute =>
    .next (advanceExecute { s with latchX := { s.latchX with memAddress := addWrap s.latchX.rs1Value imm } })
  | .memory => loadMemory rd s
  | .writeback => .next (commit rd s.latchW.buffer s)

/-- R161: the value STORE carries on from Execute: re-read from FWD when its source is a LOAD now in M (90_conflicts.md
C9). -/
def storeValue (rs1 : Reg) (s : State) : Word :=
  if isLoadOf s.latchM.instr rs1 then fwdEntry s rs1 else s.latchX.rs1Value

/-- R161: the Memory action of STORE: write the word, copy to W; or the fault of R184. -/
def storeMemory (s : State) : Result :=
  match dataIndex s s.latchM.memAddress with
  | none => raise (.dataAddressOutOfRange s.latchM.pc s.latchM.memAddress)
  | some k => .next (advanceMemory { s with dmem := s.dmem.write k s.latchM.rs1Value })

/-- R161: value rs1, base rs2. -/
def execStore (rd : Int) (rs1 rs2 : Reg) (imm : Word) (s : State) : Result :=
  match s.turn with
  | .fetch => .next (fetchTurn (.store rd rs1 rs2 imm) s)
  | .decode => .next (decodeTurn ⟨some rs1, some rs2⟩ none false s)
  | .execute =>
    .next
      (advanceExecute
        { s with
          latchX :=
            { s.latchX with memAddress := addWrap s.latchX.rs2Value imm, rs1Value := storeValue rs1 s } })
  | .memory => storeMemory s
  | .writeback => .next s

end Sys2Proof.Machine
end

