-- ==== Sys2Proof/Machine/Dispatch.lean ====
section
/-! DEFINITION. What the stage whose turn it is does with instruction `i` in its latch: one arm per instruction. -/

namespace Sys2Proof.Machine

-- The Execute, Memory and Writeback actions of the instruction rules R140 to R174, with their Decode class and Fetch.
def exec (i : Instr) (s : State) : Host.Outcome State Fault Refusal :=
  match i with
  | .nop rd rs1 rs2 imm => Sys2Proof.Machine.execNop rd rs1 rs2 imm s
  | .add rd rs1 rs2 imm => Sys2Proof.Machine.execAdd rd rs1 rs2 imm s
  | .sub rd rs1 rs2 imm => Sys2Proof.Machine.execSub rd rs1 rs2 imm s
  | .mul rd rs1 rs2 imm => Sys2Proof.Machine.execMul rd rs1 rs2 imm s
  | .and rd rs1 rs2 imm => Sys2Proof.Machine.execAnd rd rs1 rs2 imm s
  | .or rd rs1 rs2 imm => Sys2Proof.Machine.execOr rd rs1 rs2 imm s
  | .xor rd rs1 rs2 imm => Sys2Proof.Machine.execXor rd rs1 rs2 imm s
  | .load rd rs1 rs2 imm => Sys2Proof.Machine.execLoad rd rs1 rs2 imm s
  | .store rd rs1 rs2 imm => Sys2Proof.Machine.execStore rd rs1 rs2 imm s
  | .movc rd rs1 rs2 imm => Sys2Proof.Machine.execMovc rd rs1 rs2 imm s
  | .bz rd rs1 rs2 imm => Sys2Proof.Machine.execBz rd rs1 rs2 imm s
  | .bnz rd rs1 rs2 imm => Sys2Proof.Machine.execBnz rd rs1 rs2 imm s
  | .jump rd rs1 rs2 imm => Sys2Proof.Machine.execJump rd rs1 rs2 imm s
  | .halt rd rs1 rs2 imm => Sys2Proof.Machine.execHalt rd rs1 rs2 imm s

end Sys2Proof.Machine
end

