-- ==== Sys2Proof/Machine/Pipeline.lean ====
section
/-! DEFINITION. The stage processors, the tick, the launch and the driver's loop (40_pipeline.md, 70_reset_and_hazards.md).
Each stage looks at its own latch and lets `exec` do its turn of the instruction there. -/

namespace Sys2Proof.Machine

/-! ### The instruction memory -/

/-- R84, R88: the instruction in slot `k` as supplied, or the fault launch validation raises for it. -/
def slotInstr (k : Nat) (slot : Slot) : Except Fault Instr :=
  match slot with
  | .packed w =>
    match decode w with
    | .ok i => .ok i
    | .error _ => .error (.illegalEncoding k w)
  | .record r =>
    match r.toInstr with
    | .ok i => .ok i
    | .error (f, v) => .error (.boundsError k f v)

/-- R188: launch validation, in ascending order from record `k` on: the first fault, if any. -/
def firstFault : Nat → List Slot → Option Fault
  | _, [] => none
  | k, slot :: rest =>
    match slotInstr k slot with
    | .error f => some f
    | .ok _ => firstFault (k + 1) rest

/-- R62: `FetchAt(p)`, its tests in order. A slot that launch validation would reject answers that validation's fault;
after a launch there is none (log entry 5). A PC that has wrapped past the top of the address space is tested as any other:
where it is still at or above CODE_BASE, R224's fault does not follow (log entry 14). -/
def fetchAt (s : State) (p : Word) : Except Fault Instr :=
  let offset := p.toInt - s.params.codeBase
  if p.toInt < s.params.codeBase then .error (.fetchOutOfRange p)
  else if offset % s.params.insnWidth ≠ 0 then .error (.fetchMisaligned p)
  else if endPc s ≤ p.toInt then .ok (.nop 0 0 0 0)
  else
    let k := (offset / s.params.insnWidth).toNat
    match s.imem[k]? with
    | none => .ok (.nop 0 0 0 0)
    | some slot => slotInstr k slot

/-! ### The stages -/

/-- R127: count what Writeback processed, unless it is a NOP. -/
def countDone (i : Instr) (s : State) : State := if i.op = .nop then s else { s with done := s.done + 1 }

/-- R127. -/
def writebackStage (s : State) : Result :=
  let s := { s with turn := .writeback }
  if s.latchW.busy then .next s
  else andThen (exec s.latchW.instr s) fun t => .next (countDone t.latchW.instr t)

/-- R126. -/
def memoryStage (s : State) : Result :=
  let s := { s with turn := .memory }
  if s.latchM.busy || s.latchM.stalled then .next s else exec s.latchM.instr s

/-- R103: a frozen latch holds a NOP and is stalled. -/
def Latch.frozen (l : Latch) : Bool := l.stalled && decide (l.instr.op = .nop)

/-- R124 (the second MUL cycle is in MUL's own Execute turn). -/
def executeStage (s : State) : Result :=
  let s := { s with turn := .execute }
  if s.latchX.busy || s.latchX.frozen then .next s else exec s.latchX.instr s

/-- R120. -/
def decodeStage (s : State) : Result :=
  let s := { s with turn := .decode }
  if s.latchD.busy || s.latchD.frozen then .next s else exec s.latchD.instr s

/-- R118: a held instruction is released into a D that is not stalled, and nothing is fetched in that tick. -/
def releaseFetch (s : State) : State :=
  if s.latchD.stalled then s
  else
    let f := { s.latchF with stalled := false }
    { s with latchF := f, latchD := f }

/-- R118. -/
def fetchStage (s : State) : Result :=
  let s := { s with turn := .fetch }
  if s.latchF.busy then .next s
  else if s.latchF.stalled then .next (releaseFetch s)
  else
    match fetchAt s s.pc with
    | .error f => raise f
    | .ok i => exec i s

/-- R101: one tick. A fault in any stage abandons it whole (R181). -/
def tick (s : State) : Result :=
  andThen (writebackStage s) fun s =>
  andThen (memoryStage s) fun s =>
  andThen (executeStage s) fun s =>
  andThen (decodeStage s) fun s =>
  andThen (fetchStage s) fun s =>
  .next { s with cyc := s.cyc + 1 }

/-! ### The run -/

/-- R48: every element at its reset value. The launch inputs R_init, Z_init and DMEM_init are what the state holds in
`regs`, `z` and `dmem` (R202). -/
def restart (s : State) : State :=
  { s with
    status := .running
    valid := Vector.replicate 32 true
    fwd := Vector.replicate 32 0
    pc := wrap32 s.params.codeBase
    cyc := 0
    done := 0
    latchF := Latch.bubble
    latchD := Latch.unprimed
    latchX := Latch.unprimed
    latchM := Latch.unprimed
    latchW := Latch.unprimed
    turn := .fetch }

/-- R200, R188: the launch: the parameter check, the validation, the reset. -/
def launch (s : State) : Result :=
  if ¬ s.params.Ok s.progLen then .refused .parameterConstraint
  else if s.params.dmemWords < s.params.reportWindow then .refused .reportWindowTooLarge
  else
    match firstFault 0 s.imem with
    | some f => raise f
    | none => .next (restart s)

/-- R128: one turn of the driver's loop: the two stop tests, Completed first, and then a tick. -/
def runLoop (s : State) : Result :=
  if termPc s ≤ s.pc.toInt then .next { s with status := .completed }
  else if s.config.cycleBudget ≤ s.cyc then .next { s with status := .budgetExhausted }
  else tick s

/-- R128, R180: a step: the launch, then loop turns; a run that has stopped stays as it is (R197). -/
def driver (s : State) : Result :=
  match s.status with
  | .launching => launch s
  | .running => runLoop s
  | .completed => .next s
  | .budgetExhausted => .next s

end Sys2Proof.Machine
end

