-- ==== Sys2Proof/Machine/Loader.lean ====
section
/-! DEFINITION. The host's side of the launch (R198, R200): the state that holds its inputs, and a single word put where
the next tick fetches. -/

namespace Sys2Proof.Machine

/-- R200 step 1: what the host supplies. -/
structure LaunchInputs where
  params : Params
  config : Config
  /-- N records, or N packed words -/
  imem : List Slot
  /-- R_init -/
  regs : Vector Word 32
  /-- Z_init -/
  z : Bool
  /-- DMEM_init -/
  dmem : Memory
deriving DecidableEq, Repr

/-- R198, R200: the state before the launch step. -/
def supplied (l : LaunchInputs) : State :=
  { State.reset with
    status := .launching, params := l.params, config := l.config, imem := l.imem, regs := l.regs, z := l.z, dmem := l.dmem }

/-- The slot list with slot `k` set to `slot`, the slots before it filled up with NOP words where there are none. -/
def placeSlot : List Slot → Nat → Slot → List Slot
  | [], 0, slot => [slot]
  | _ :: rest, 0, slot => slot :: rest
  | [], k + 1, slot => .packed 0 :: placeSlot [] k slot
  | a :: rest, k + 1, slot => a :: placeSlot rest k slot

/-- Whether PC lies on the instruction grid, so that a fetch from it reaches a slot (R62). -/
def onGrid (s : State) : Bool :=
  decide (s.params.codeBase ≤ s.pc.toInt) && decide ((s.pc.toInt - s.params.codeBase) % s.params.insnWidth = 0)

/-- `s` with the packed word `w` in the slot at PC, and all that the next step needs to fetch it: the run in progress,
a PC on the grid, a tick left in the budget, and a pipeline with nothing in flight, as at reset, so that no older
instruction redirects, freezes or faults first. At `State.reset` this changes the instruction memory alone
(log entry 2). -/
def loadWord (s : State) (w : BitVec 64) : State :=
  let pc := if onGrid s then s.pc else wrap32 s.params.codeBase
  let k := ((pc.toInt - s.params.codeBase) / s.params.insnWidth).toNat
  { s with
    status := .running
    config := { s.config with cycleBudget := max s.config.cycleBudget (s.cyc + 1) }
    imem := placeSlot s.imem k (.packed w)
    valid := Vector.replicate 32 true
    pc := pc
    latchF := Latch.bubble
    latchD := Latch.unprimed
    latchX := Latch.unprimed
    latchM := Latch.unprimed
    latchW := Latch.unprimed
    turn := .fetch }

end Sys2Proof.Machine
end

