-- ==== Sys2Proof/Machine/Step.lean ====
section
/-! DEFINITION. The step, and a word stored where the next step fetches. -/

namespace Sys2Proof.Machine

/-- One step of the machine: one turn of the driver's loop, which is one tick while the program runs (R101, R128). -/
def step (s : State) : Host.Outcome State Fault Refusal := driver s

/-- `s` with the packed word `w` (its bits above `nbits` zero) in the instruction slot the next step fetches. -/
def State.withFetchWord (s : State) (nbits w : Nat) : State := loadWord s (BitVec.ofNat 64 (w % 2 ^ nbits))

end Sys2Proof.Machine
end

