-- ==== Sys2Proof/Machine/Report.lean ====
section
/-! DEFINITION. The block's output ports (R100): the status (R180), the per-cycle trace (R106) and the final report (R105). -/

namespace Sys2Proof.Machine

/-- R180: the numeric fault codes. -/
def faultCode : Fault → Nat
  | .boundsError _ _ _ => 1
  | .illegalEncoding _ _ => 2
  | .dataAddressOutOfRange _ _ => 3
  | .fetchOutOfRange _ => 4
  | .fetchMisaligned _ => 5

/-- R105: how a run stopped. -/
inductive StopKind where
  | completed | budgetExhausted | fault (f : Fault)
deriving DecidableEq, Repr

/-- R180: what the status port shows. -/
inductive PortStatus where
  | running | stopped (k : StopKind)
deriving DecidableEq, Repr

/-- R100, R180: the status port in state `s`: stopped in a fault when the step from `s` is the faulting one (R181).
None before the launch has put the status to Running, and when the launch refuses (R188: the run does not start). -/
def statusPort (s : State) : Option PortStatus :=
  match step s with
  | .fault f => some (.stopped (.fault f))
  | .refused _ => none
  | .next _ =>
    match s.status with
    | .launching => none
    | .running => some .running
    | .completed => some (.stopped .completed)
    | .budgetExhausted => some (.stopped .budgetExhausted)

/-- R100: the snapshot on the trace port, the five latches and PC. Neither counter is in it: R193 and R196 show CYC and DONE
in the final report only. -/
structure TraceSnapshot where
  latchF : Latch
  latchD : Latch
  latchX : Latch
  latchM : Latch
  latchW : Latch
  pc : Word
deriving DecidableEq, Repr

/-- R106: a snapshot and the CYC it was taken at. -/
structure TraceEntry where
  snapshot : TraceSnapshot
  cyc : Nat
deriving DecidableEq, Repr

/-- R100: the trace port after a tick that ended in `s`, when TRACE is set. -/
def tracePort (s : State) : Option TraceSnapshot :=
  if s.config.trace then
    some { latchF := s.latchF, latchD := s.latchD, latchX := s.latchX, latchM := s.latchM, latchW := s.latchW, pc := s.pc }
  else none

/-- R106: the trace with CYC beside each snapshot. R193 and R196 keep CYC off the block's ports during a run, and R106 puts it
there: the model gives both, the port without CYC and this entry, and no step reads either (log entry 13). -/
def traceEntry (s : State) : Option TraceEntry := (tracePort s).map fun snapshot => { snapshot := snapshot, cyc := s.cyc }

/-- R105: the final report. -/
structure Report where
  regs : List Word
  valid : List Bool
  /-- the report window of data memory (R75) -/
  dmem : List Word
  /-- N -/
  total : Nat
  done : Nat
  cyc : Nat
  stop : StopKind
deriving DecidableEq, Repr

/-- R105: the report of a run that stopped with `stop` and whose state to report is `s`. -/
def reportOf (s : State) (stop : StopKind) : Report :=
  { regs := s.regs.toList
    valid := s.valid.toList
    dmem := (List.range s.params.reportWindow).map s.dmem.read
    total := s.progLen
    done := s.done
    cyc := s.cyc
    stop := stop }

/-- R105, R181: the report port: the report once the run has stopped. After a fault it is of the state the faulting step
began in; after a launch fault, of the launch inputs with CYC = 0, DONE = 0 and every validity bit true. -/
def reportPort (s : State) : Option Report :=
  match statusPort s with
  | some (.stopped stop) =>
    match s.status with
    | .launching => some (reportOf (restart s) stop)
    | .running => some (reportOf s stop)
    | .completed => some (reportOf s stop)
    | .budgetExhausted => some (reportOf s stop)
  | some .running => none
  | none => none

end Sys2Proof.Machine
end

