-- ==== Sys2Proof/Machine/Sequential.lean ====
section
/-! DEFINITION. The sequential reading of the instruction rules: one instruction at a time on the architectural state, with
no pipeline. No step uses it; claims compare the pipeline with it (R70, R133, R230). -/

namespace Sys2Proof.Machine

/-- Whether a sequential run goes on. -/
inductive SeqStatus where
  | going | halted | faulted (f : Fault)
deriving DecidableEq, Repr

/-- What a program's result consists of (R133), with the address of the next instruction. -/
structure Arch where
  regs : Vector Word 32
  z : Bool
  dmem : Memory
  pc : Word
  done : Nat
  status : SeqStatus
deriving DecidableEq, Repr

/-- An architectural state, and whether the instructions behind the one just run still count: a taken transfer, a HALT
and a fault discard them (R176, R173, R181). -/
structure Flight where
  arch : Arch
  alive : Bool
deriving DecidableEq, Repr

/-- The instruction completed: it counts in DONE (R39). -/
def Arch.count (a : Arch) : Arch := { a with done := a.done + 1 }

/-- Register r takes the result v. -/
def Arch.put (r : Reg) (v : Word) (a : Arch) : Arch := { a with regs := a.regs.set r v }

/-- A register result that leaves Z alone (R150 to R153, R160). -/
def Flight.result (r : Reg) (v : Word) (a : Arch) : Flight := ⟨(a.put r v).count, true⟩

/-- An arithmetic result, with its zero flag (R143). -/
def Flight.arith (r : Reg) (v : Word) (a : Arch) : Flight := ⟨({ a with z := v == 0 }.put r v).count, true⟩

/-- A transfer to `target` when `taken` (R176). -/
def Flight.transfer (taken : Bool) (target : Word) (a : Arch) : Flight :=
  if taken then ⟨{ a with pc := target }.count, false⟩ else ⟨a.count, true⟩

/-- A data fault of the instruction at `pc` ends the run, PC left at that instruction (R181, R184). -/
def Flight.dataFault (pc ea : Word) (a : Arch) : Flight :=
  ⟨{ a with pc := pc, status := .faulted (.dataAddressOutOfRange pc ea) }, false⟩

/-- R160: a LOAD from the effective address `ea`. -/
def Flight.load (env : State) (r : Reg) (pc ea : Word) (a : Arch) : Flight :=
  match dataIndex env ea with
  | none => .dataFault pc ea a
  | some k => .result r (a.dmem.read k) a

/-- R161: a STORE of `v` to the effective address `ea`. -/
def Flight.store (env : State) (v pc ea : Word) (a : Arch) : Flight :=
  match dataIndex env ea with
  | none => .dataFault pc ea a
  | some k => ⟨{ a with dmem := a.dmem.write k v }.count, true⟩

/-- R173: HALT. -/
def Flight.halt (env : State) (a : Arch) : Flight :=
  ⟨{ a with pc := wrap32 (termPc env), status := .halted }.count, false⟩

/-- The whole effect of instruction `i` at address `pc` whose operands are `v1` and `v2`. `env` gives the parameters. -/
def seqEffect (env : State) (i : Instr) (pc v1 v2 : Word) (a : Arch) : Flight :=
  match i with
  | .nop _ _ _ _ => ⟨a, true⟩
  | .add rd _ _ _ => .arith rd (addWrap v1 v2) a
  | .sub rd _ _ _ => .arith rd (subWrap v1 v2) a
  | .mul rd _ _ _ => .arith rd (mulWrap v1 v2) a
  | .and rd _ _ _ => .result rd (v1 &&& v2) a
  | .or rd _ _ _ => .result rd (v1 ||| v2) a
  | .xor rd _ _ _ => .result rd (v1 ^^^ v2) a
  | .movc rd _ _ imm => .result rd imm a
  | .load rd _ _ imm => .load env rd pc (addWrap v1 imm) a
  | .store _ _ _ imm => .store env v1 pc (addWrap v2 imm) a
  | .bz _ _ _ imm => .transfer a.z (addWrap pc imm) a
  | .bnz _ _ _ imm => .transfer (!a.z) (addWrap pc imm) a
  | .jump _ _ _ imm => .transfer true (addWrap v1 imm) a
  | .halt _ _ _ _ => .halt env a

/-- The value a source field reads in the architectural state; a field the opcode does not read has no say. -/
def Arch.operand (a : Arch) (field : Option Reg) : Word :=
  match field with
  | some r => a.regs.get r
  | none => 0

/-- Instruction `i` at address `pc`, its operands read from the registers (R108). -/
def seqExec (env : State) (i : Instr) (pc : Word) (a : Arch) : Flight :=
  seqEffect env i pc (a.operand (sourcesOf i).rs1) (a.operand (sourcesOf i).rs2) a

/-- One sequential step: fetch at PC (R62), advance PC, run the instruction. -/
def seqStep (env : State) (a : Arch) : Arch :=
  match a.status with
  | .going =>
    match fetchAt env a.pc with
    | .error f => { a with status := .faulted f }
    | .ok i => (seqExec env i a.pc { a with pc := wrap32 (a.pc.toInt + env.params.insnWidth) }).arch
  | .halted => a
  | .faulted _ => a

end Sys2Proof.Machine
end

