-- ==== Sys2Proof/Safety.lean ====
section
/-! DEFINITION. What claims are stated in: the invariants the spec derives of the machine between ticks (R33, R41, R42, R130
to R132, R161), a safe run, and the architectural state a pipeline stands for. -/

namespace Sys2Proof.Machine

/-! ### In-flight writers -/

/-- The register the instruction in a latch has reserved, for a latch that Decode has already forwarded into (R121). -/
def writerOf (l : Latch) : Option Reg := if l.busy then none else destOf l.instr

/-- R33: how many in-flight instructions will write register `r`. Between ticks they sit in X, M and W (a stale copy
there is a HALT, which writes nothing: R43, R173). -/
def writersOf (s : State) (r : Reg) : Nat :=
  ([s.latchX, s.latchM, s.latchW].filter fun l => writerOf l == some r).length

/-- R33, R130: a register is invalid exactly while one in-flight instruction will write it, and never are there two. -/
def SingleWriter (s : State) : Prop := ∀ r, writersOf s r = if isValid s r then 0 else 1

/-- R131: the forwarding table holds the result of an in-flight producer that has left Execute (Memory, for a LOAD). -/
def ForwardsResults (s : State) : Prop :=
  ∀ r, (writerOf s.latchW = some r → fwdEntry s r = s.latchW.buffer) ∧
    (writerOf s.latchM = some r → isLoadOf s.latchM.instr r = false → fwdEntry s r = s.latchM.buffer)

/-! ### The shape of the pipeline between ticks -/

/-- R41, R203: the stages prime one after another, and an unprimed latch is the busy bubble. -/
def BusyChain (s : State) : Prop :=
  s.latchF.busy = false ∧ (s.latchD.busy = true → s.latchD = Latch.unprimed ∧ s.latchX.busy = true) ∧
    (s.latchX.busy = true → s.latchX = Latch.unprimed ∧ s.latchM.busy = true) ∧
    (s.latchM.busy = true → s.latchM = Latch.unprimed ∧ s.latchW.busy = true) ∧
    (s.latchW.busy = true → s.latchW = Latch.unprimed)

/-- R118: Fetch holds exactly while Decode does; otherwise D is a copy of F, once it is primed. -/
def FetchHolds (s : State) : Prop :=
  s.latchF.stalled = s.latchD.stalled ∧ (s.latchD.stalled = false → s.latchD.busy = false → s.latchD = s.latchF)

/-- R42, R142: X is stalled only by MUL's first cycle, which has put the product in `buffer` and a bubble into M, or
by a freeze; M only by a freeze; W never. -/
def StalledStages (s : State) : Prop :=
  (s.latchX.stalled = true →
    s.latchX = frozenBubble ∨
      (s.latchX.instr.op = .mul ∧ s.latchM = Latch.bubble ∧
        s.latchX.buffer = mulWrap s.latchX.rs1Value s.latchX.rs2Value)) ∧
    (s.latchM.stalled = true → s.latchM = frozenBubble) ∧ s.latchW.stalled = false

/-- R173: how far a HALT has come. Nothing is frozen until it has been in Execute. Then F and D are frozen, with the
HALT in M (and its stale copy in X); then X too, with the HALT in W (and its stale copy in M); then M too, the HALT
committed and PC at TERM_PC. -/
def HaltPhase (s : State) : Prop :=
  (s.latchD.frozen = false ∧ s.latchX ≠ frozenBubble ∧ s.latchM.stalled = false ∧
      s.latchM.instr.op ≠ .halt ∧ s.latchW.instr.op ≠ .halt) ∨
    (s.latchF = frozenBubble ∧ s.latchD = frozenBubble ∧
      ((s.latchX.instr.op = .halt ∧ s.latchX.stalled = false ∧ s.latchM = s.latchX ∧ s.latchW.instr.op ≠ .halt) ∨
        (s.latchX = frozenBubble ∧ s.latchM.instr.op = .halt ∧ s.latchM.stalled = false ∧ s.latchW = s.latchM) ∨
        (s.latchX = frozenBubble ∧ s.latchM = frozenBubble ∧ s.latchW.instr.op = .halt ∧
          s.pc = wrap32 (termPc s))))

/-- R161: a STORE in X never has its value producer, a LOAD, in M, so the Execute re-check never fires. -/
def StoreValueReady (s : State) : Prop :=
  ∀ rd rs1 rs2 imm, s.latchX.instr = .store rd rs1 rs2 imm → isLoadOf s.latchM.instr rs1 = false

/-- The data memory is in the model's canonical form (log entry 6), and lists only words the memory has (R63). -/
def MemoryOk (s : State) : Prop := s.dmem.wf = true ∧ s.dmem.below s.params.dmemWords = true

/-- R38, R193: DONE ≤ CYC ≤ CYCLE_BUDGET. -/
def CountersOk (s : State) : Prop := s.done ≤ s.cyc ∧ s.cyc ≤ s.config.cycleBudget

/-- R13, R84, R88: what the launch has checked and nothing changes. -/
def Launched (s : State) : Prop :=
  s.status ≠ .launching ∧ s.params.Ok s.progLen ∧ firstFault 0 s.imem = none

/-- The invariant of the machine between ticks. -/
structure Inv (s : State) : Prop where
  launched : Launched s
  betweenTicks : s.turn = .fetch
  busyChain : BusyChain s
  fetchHolds : FetchHolds s
  stalledStages : StalledStages s
  haltPhase : HaltPhase s
  singleWriter : SingleWriter s
  forwardsResults : ForwardsResults s
  storeValueReady : StoreValueReady s

/-- R62, R66, R224: PC is on the instruction grid at or above CODE_BASE, or it has wrapped past the top of the address
space. A wrapped PC may be at or above CODE_BASE (log entry 14). -/
def PcOk (s : State) : Prop :=
  (s.params.codeBase ≤ s.pc.toInt ∧ (s.pc.toInt - s.params.codeBase) % s.params.insnWidth = 0) ∨
    s.pc.toInt < -2 ^ 31 + s.params.insnWidth

/-! ### When a step is a tick -/

/-- R128: neither stop test holds, so the next step is a tick. -/
structure Ticking (s : State) : Prop where
  running : s.status = .running
  beforeTerm : s.pc.toInt < termPc s
  inBudget : s.cyc < s.config.cycleBudget

/-- R101, R181: a tick has been made: the step from `s` has answered `t`, and the run goes on. -/
structure TickTo (s t : State) : Prop where
  ticking : Ticking s
  answers : step s = .next t

/-- A latch with nothing to do: a NOP that is not frozen, busy or not (R41, R174). -/
def Latch.idle (l : Latch) : Prop := l.instr.op = .nop ∧ l.stalled = false

/-- Nothing is in flight and Fetch holds nothing. -/
structure Quiet (s : State) : Prop where
  d : s.latchD.idle
  x : s.latchX.idle
  m : s.latchM.idle
  w : s.latchW.idle
  f : s.latchF.stalled = false

/-! ### Comparing two runs -/

/-- `f` applied to the next state, if there is one. -/
def mapNext (f : State → State) (o : Result) : Result :=
  match o with
  | .next s => .next (f s)
  | .fault r => .fault r
  | .refused r => .refused r

/-- R46: the same machine with the other run mode. -/
def setTrace (b : Bool) (s : State) : State := { s with config := { s.config with trace := b } }

/-- R193: the same machine with other counts. -/
def setCounters (c d : Nat) (s : State) : State := { s with cyc := c, done := d }

/-- R131: the same machine with nothing in the forwarding table. -/
def forgetFwd (s : State) : State := { s with fwd := Vector.replicate 32 0 }

/-- R83: the instruction with 0 in every field its opcode ignores. -/
def forgetInstr : Instr → Instr
  | .nop _ _ _ _ => .nop 0 0 0 0
  | .add rd rs1 rs2 _ => .add rd rs1 rs2 0
  | .sub rd rs1 rs2 _ => .sub rd rs1 rs2 0
  | .mul rd rs1 rs2 _ => .mul rd rs1 rs2 0
  | .and rd rs1 rs2 _ => .and rd rs1 rs2 0
  | .or rd rs1 rs2 _ => .or rd rs1 rs2 0
  | .xor rd rs1 rs2 _ => .xor rd rs1 rs2 0
  | .load rd rs1 _ imm => .load rd rs1 0 imm
  | .store _ rs1 rs2 imm => .store 0 rs1 rs2 imm
  | .movc rd _ _ imm => .movc rd 0 0 imm
  | .bz _ _ _ imm => .bz 0 0 0 imm
  | .bnz _ _ _ imm => .bnz 0 0 0 imm
  | .jump _ rs1 _ imm => .jump 0 rs1 0 imm
  | .halt _ _ _ _ => .halt 0 0 0 0

/-- R83: the ignored fields of a latch's instruction forgotten. -/
def forgetLatch (l : Latch) : Latch := { l with instr := forgetInstr l.instr }

/-- R83: the ignored fields of a supplied slot forgotten; a slot that validation rejects stays as it is. -/
def forgetSlot (slot : Slot) : Slot :=
  match slot with
  | .packed w =>
    match decode w with
    | .ok i => .packed (encode (forgetInstr i))
    | .error _ => .packed w
  | .record r =>
    match r.toInstr with
    | .ok i => .record (forgetInstr i).toRecord
    | .error _ => .record r

/-- R83: the ignored fields forgotten wherever the machine carries them. -/
def forget (s : State) : State :=
  { s with
    imem := s.imem.map forgetSlot
    latchF := forgetLatch s.latchF, latchD := forgetLatch s.latchD, latchX := forgetLatch s.latchX
    latchM := forgetLatch s.latchM, latchW := forgetLatch s.latchW }

/-! ### Safe runs -/

/-- R181: the run that `n` steps from `s` make stops in no fault and no refusal. -/
def SafeFor (s : State) (n : Nat) : Prop := ∃ t, Sys2Proof.core.run n s = .next t

/-- The run from `s` has stopped with `status` after `n` steps, in state `t`. -/
def StopsIn (s : State) (n : Nat) (status : Status) (t : State) : Prop :=
  Sys2Proof.core.run n s = .next t ∧ t.status = status

/-! ### What a pipeline stands for -/

/-- The result that an instruction which has left Execute still has to commit (R127), `v` being its buffer. -/
def finishCommit (i : Instr) (v : Word) (a : Arch) : Flight :=
  match destOf i with
  | some r => if isArith i.op then .arith r v a else .result r v a
  | none => if i.op = .nop then ⟨a, true⟩ else ⟨a.count, true⟩

/-- Complete the instruction in W: only its Writeback is left. -/
def finishW (s : State) (a : Arch) : Flight :=
  if s.latchW.instr.op = .halt then .halt s a else finishCommit s.latchW.instr s.latchW.buffer a

/-- Complete the instruction in M: its Memory action and Writeback are left. -/
def finishM (s : State) (a : Arch) : Flight :=
  match s.latchM.instr with
  | .load rd _ _ _ => .load s rd s.latchM.pc s.latchM.memAddress a
  | .store _ _ _ _ => .store s s.latchM.rs1Value s.latchM.pc s.latchM.memAddress a
  | .bz _ _ _ imm => .transfer a.z (addWrap s.latchM.pc imm) a
  | .bnz _ _ _ imm => .transfer (!a.z) (addWrap s.latchM.pc imm) a
  | .jump _ _ _ _ => .transfer true s.latchM.buffer a
  | .halt _ _ _ _ => .halt s a
  | .add rd _ _ _ | .sub rd _ _ _ | .mul rd _ _ _ => .arith rd s.latchM.buffer a
  | .and rd _ _ _ | .or rd _ _ _ | .xor rd _ _ _ | .movc rd _ _ _ => .result rd s.latchM.buffer a
  | .nop _ _ _ _ => ⟨a, true⟩

/-- Complete the instruction in X: it has its operands and has yet to execute. -/
def finishX (s : State) (a : Arch) : Flight :=
  seqEffect s s.latchX.instr s.latchX.pc s.latchX.rs1Value s.latchX.rs2Value a

/-- Run an instruction of D or of a holding F, which has read nothing yet. -/
def finishYoung (s : State) (l : Latch) (a : Arch) : Flight := seqExec s l.instr l.pc a

/-- The next younger instruction, unless an older one has discarded it. -/
def Flight.andThen (f : Flight) (g : Arch → Flight) : Flight := if f.alive then g f.arch else f

/-- The architectural state with nothing of the pipeline completed. -/
def committed (s : State) : Arch :=
  { regs := s.regs, z := s.z, dmem := s.dmem, pc := s.pc, done := s.done, status := .going }

/-- The architectural state that the machine between ticks stands for: its in-flight instructions completed one after
another, oldest first (W, M, X, D, then F if it holds one that is not in D). Once the HALT has committed, M is
frozen and nothing is left in flight (R173). -/
def drained (s : State) : Arch :=
  if s.latchM = frozenBubble then { committed s with status := .halted }
  else
    (((((finishW s (committed s)).andThen (finishM s)).andThen (finishX s)).andThen
      (finishYoung s s.latchD)).andThen
      fun a => if s.latchF.stalled then finishYoung s s.latchF a else ⟨a, true⟩).arch

end Sys2Proof.Machine
end

