-- ==== Sys2Proof/Certificates/Slice0/Obligations.lean ====
section
/-! DEFINITION. The statements for the provers. Where a statement gives a next state as `{ s with … }`, what it does not
name is unchanged: that is the instruction's frame. -/

open Sys2Proof Sys2Proof.Machine

namespace Sys2Proof.Machine

/-- In the turn of stage `st`, instruction `i` takes state `s` to exactly `t`. -/
abbrev InTurn (st : Stage) (i : Instr) (s t : State) : Prop := s.turn = st → exec i s = .next t

/-- R104: the validity bits once the reservation of a latch is released. -/
def releasedValid (l : Latch) (v : Vector Bool 32) : Vector Bool 32 :=
  match destOf l.instr with
  | some r => if l.busy then v else v.set r true
  | none => v

/-- R88: a packed word that is illegal, read off its bits as a number. -/
def IllegalWord (w : BitVec 64) : Prop := 14 ≤ w.toNat / 2 ^ 28 % 16 ∨ w.toNat % 2 ^ 13 ≠ 0

/-- R84, R88: a slot that launch validation accepts. -/
def SlotOk : Slot → Prop
  | .packed w => ¬ IllegalWord w
  | .record r => r.WellFormed

/-- R188: the register fields a validation has checked before it checks `f`. -/
def checkedBefore : RegField → List RegField
  | .rd => []
  | .rs1 => [.rd]
  | .rs2 => [.rd, .rs1]

/-- R10, R13, R75: the launch's parameter checks pass. -/
def ParamsOk (s : State) : Prop := s.params.Ok s.progLen ∧ s.params.reportWindow ≤ s.params.dmemWords

/-- A live latch: its stage will take its turn of the instruction in it (R103). -/
abbrev Latch.live (l : Latch) : Prop := l.busy = false ∧ l.stalled = false

/-- The first four stages of a tick (R101). -/
def fourStages (s : State) : Result :=
  andThen (writebackStage s) fun s => andThen (memoryStage s) fun s => andThen (executeStage s) decodeStage

/-- R170 to R172: the instruction in M takes a transfer of control to `target` in this tick, Z being what Writeback
leaves in the same tick. -/
def Redirects (s : State) (target : Word) : Prop :=
  s.latchM.live ∧
    ((∃ rd rs1 rs2 imm, s.latchM.instr = .bz rd rs1 rs2 imm ∧ target = wrap32 (s.latchM.pc.toInt + imm.toInt) ∧
        ∃ a, writebackStage s = .next a ∧ a.z = true) ∨
      (∃ rd rs1 rs2 imm, s.latchM.instr = .bnz rd rs1 rs2 imm ∧ target = wrap32 (s.latchM.pc.toInt + imm.toInt) ∧
        ∃ a, writebackStage s = .next a ∧ a.z = false) ∨
      (s.latchM.instr.op = .jump ∧ target = s.latchM.buffer))

/-- R221: whether the Writeback of this tick commits a HALT. -/
def HaltInWriteback (s : State) : Prop := s.latchW.busy = false ∧ s.latchW.instr.op = .halt

/-- A LOAD or STORE whose effective address in M is outside the data memory (R64). -/
def BadAccess (s : State) : Prop :=
  s.latchM.live ∧ (s.latchM.instr.op = .load ∨ s.latchM.instr.op = .store) ∧
    ¬ (0 ≤ s.latchM.memAddress.toInt ∧ s.latchM.memAddress.toInt < s.params.dmemWords)

end Sys2Proof.Machine

/-! ### Encoding -/

/-- R96: the worked encodings, both ways. -/
def Obligations.WorkedEncodings : Prop :=
  ∀ p ∈ ([(0x0000000011844000, .add 3 1 2 0), (0x0000000070880000, .load 1 2 0 0),
      (0xFFFFFFFC80044000, .store 0 1 2 (wrap32 (-4))), (0x0000000590800000, .movc 1 0 0 5),
      (0xFFFFFFF8A0000000, .bz 0 0 0 (wrap32 (-8))), (0x00000010C0040000, .jump 0 1 0 16),
      (0x00000000D0000000, .halt 0 0 0 0), (0x0000000000000000, .nop 0 0 0 0)] : List (BitVec 64 × Instr)),
    decode p.1 = .ok p.2 ∧ encode p.2 = p.1

/-- Every instruction whose register fields fit is what the decoder reads from its packed word (R85, R86). -/
def Obligations.DecodeOfEncode : Prop := ∀ i : Instr, i.WellFormed → decode (encode i) = .ok i

/-- A packed word that decodes is the packed word of what it decodes to: no bit is dropped (R85). -/
def Obligations.EncodeOfDecode : Prop := ∀ (w : BitVec 64) (i : Instr), decode w = .ok i → i.WellFormed ∧ encode i = w

/-- R87: mask and match. -/
def Obligations.MaskSelectsOpcode : Prop :=
  ∀ (w : BitVec 64) (op : Opcode),
    (∃ i, decode w = .ok i ∧ i.op = op) ↔ w &&& 0x00000000F0001FFF = (op.code.zeroExtend 64) <<< 28

/-- R85: a packed word's record, every field read off the word's bits as a number, and valid (R84). -/
def Obligations.PackedWordFields : Prop :=
  ∀ (w : BitVec 64) (op : Opcode), w.toNat % 2 ^ 13 = 0 → op.code.toNat = w.toNat / 2 ^ 28 % 16 →
    ∃ i, decode w = .ok i ∧ i.toRecord.WellFormed ∧
      i.toRecord = ⟨op, (w.toNat / 2 ^ 23 % 32 : Nat), (w.toNat / 2 ^ 18 % 32 : Nat), (w.toNat / 2 ^ 13 % 32 : Nat),
        BitVec.ofNat 32 (w.toNat / 2 ^ 32)⟩

/-- R88: exactly the words with a reserved opcode or a reserved bit set are refused. -/
def Obligations.IllegalWordsRefused : Prop := ∀ w : BitVec 64, (∃ e, decode w = .error e) ↔ IllegalWord w

/-- R84, R83, R188: validation accepts exactly the well-formed records, drops no field, and names the first used
field out of range. -/
def Obligations.RecordValidation : Prop :=
  ∀ r : Record,
    ((∃ i, r.toInstr = .ok i) ↔ r.WellFormed) ∧ (∀ i, r.toInstr = .ok i → i.toRecord = r) ∧
      ∀ f v, r.toInstr = .error (f, v) → r.opcode.uses f = true ∧ v = r.field f ∧ ¬ InRegRange v ∧
        ∀ g ∈ checkedBefore f, r.opcode.uses g = true → InRegRange (r.field g)

/-! ### Launch and reset -/

/-- R13: a configuration that breaks a constraint is refused, whatever the program; under the constraints the increment
of a PC below TERM_PC does not wrap. -/
def Obligations.LaunchRefusesBadParameters : Prop :=
  ∀ s : State,
    let p := s.params
    let term : Int := p.codeBase + p.insnWidth * (s.imem.length + p.drainMargin)
    let constraints : Prop :=
      1 ≤ p.insnWidth ∧ 1 ≤ p.dmemWords ∧ -2 ^ 31 ≤ p.codeBase ∧ p.codeBase ≤ term ∧ term + p.insnWidth ≤ 2 ^ 31
    (s.status = .launching → ¬ constraints → step s = .refused .parameterConstraint) ∧
      (constraints → ∀ pc : Word, pc.toInt < term → (wrap32 (pc.toInt + p.insnWidth)).toInt = pc.toInt + p.insnWidth)

/-- R182, R183: the launch faults at the first slot it rejects, and at the first bad field of that slot. -/
def Obligations.LaunchFaultsAtFirstBadSlot : Prop :=
  ∀ (s : State) (k : Nat), s.status = .launching → ParamsOk s →
    (∀ j slot, j < k → s.imem[j]? = some slot → SlotOk slot) →
    (∀ w, s.imem[k]? = some (.packed w) → IllegalWord w → step s = .fault (.illegalEncoding k w)) ∧
      ∀ r f, s.imem[k]? = some (.record r) → r.opcode.uses f = true → ¬ InRegRange (r.field f) →
        (∀ g ∈ checkedBefore f, r.opcode.uses g = true → InRegRange (r.field g)) →
        step s = .fault (.boundsError k f (r.field f))

/-- R48: the reset values, from launch inputs that pass the checks. -/
def Obligations.LaunchResets : Prop :=
  ∀ l : LaunchInputs, ParamsOk (supplied l) → (∀ slot ∈ l.imem, SlotOk slot) →
    step (supplied l) = .next
      { status := .running, params := l.params, config := l.config, imem := l.imem, regs := l.regs
        valid := Vector.replicate 32 true, fwd := Vector.replicate 32 0, z := l.z, dmem := l.dmem
        pc := wrap32 l.params.codeBase, cyc := 0, done := 0, latchF := Latch.bubble
        latchD := { Latch.bubble with busy := true }, latchX := { Latch.bubble with busy := true }
        latchM := { Latch.bubble with busy := true }, latchW := { Latch.bubble with busy := true }, turn := .fetch }

/-- The model's `State.reset` is what the launch makes of the reference inputs and an empty program (log entry 2). -/
def Obligations.ResetIsTheReferenceLaunch : Prop :=
  step (supplied
    { params := Params.reference, config := Config.reference, imem := [], regs := Vector.replicate 32 0, z := false
      dmem := [] }) = .next State.reset

/-- A launch establishes the invariants (R33, R48), the DMEM_init supplied being a data memory in canonical form, which is
the model's (log entry 6). -/
def Obligations.LaunchMeetsInvariants : Prop :=
  ∀ s t : State, s.status = .launching → MemoryOk s → step s = .next t → Inv t ∧ MemoryOk t ∧ CountersOk t ∧ PcOk t

/-- The model's `State.reset` meets the invariants that every step keeps. -/
def Obligations.ResetMeetsInvariants : Prop :=
  Inv State.reset ∧ MemoryOk State.reset ∧ CountersOk State.reset ∧ PcOk State.reset

/-! ### The driver and the stages -/

/-- R128: the stop tests, Completed first; R197: a stopped run stays as it is. -/
def Obligations.DriverStops : Prop :=
  ∀ s : State,
    (s.status = .running → termPc s ≤ s.pc.toInt → step s = .next { s with status := .completed }) ∧
      (s.status = .running → s.pc.toInt < termPc s → s.config.cycleBudget ≤ s.cyc →
        step s = .next { s with status := .budgetExhausted }) ∧
      (s.status = .completed → step s = .next s) ∧ (s.status = .budgetExhausted → step s = .next s)

/-- R101, R103: a tick runs the instructions in W, M, X and D in that order, each stage giving its latch's instruction to
`exec` unless it is unprimed or frozen, then Fetch, and then counts. -/
def Obligations.TickRunsTheLatches : Prop :=
  ∀ s : State, Ticking s →
    step s =
      andThen
        (if s.latchW.busy then .next { s with turn := .writeback }
          else
            andThen (exec s.latchW.instr { s with turn := .writeback }) fun a =>
              .next (if s.latchW.instr.op = .nop then a else { a with done := a.done + 1 })) fun a =>
      andThen
        (if a.latchM.busy ∨ a.latchM.stalled then .next { a with turn := .memory }
          else exec a.latchM.instr { a with turn := .memory }) fun b =>
      andThen
        (if b.latchX.busy ∨ (b.latchX.stalled ∧ b.latchX.instr.op = .nop) then .next { b with turn := .execute }
          else exec b.latchX.instr { b with turn := .execute }) fun c =>
      andThen
        (if c.latchD.busy ∨ (c.latchD.stalled ∧ c.latchD.instr.op = .nop) then .next { c with turn := .decode }
          else exec c.latchD.instr { c with turn := .decode }) fun d =>
      andThen (fetchStage d) fun e => .next { e with cyc := e.cyc + 1 }

/-- A step runs the decoded instruction: once the older stages have had their turns, and unless Fetch is holding, the
step is `exec` of the instruction that the slot at PC decodes to, with the tick counted (R101, R118); and while no
older stage is primed, their turns change nothing (R203). -/
def Obligations.StepRunsFetchedInstruction : Prop :=
  ∀ (s u : State) (i : Instr), Ticking s → fourStages s = .next u → u.latchF.busy = false → u.latchF.stalled = false →
    (fetchAt u u.pc = .ok i →
      ∃ t, exec i { u with turn := .fetch } = .next t ∧ step s = .next { t with cyc := t.cyc + 1 }) ∧
      (s.latchW.busy = true → s.latchM.busy = true → s.latchX.busy = true → s.latchD.busy = true →
        u = { s with turn := .decode })

/-- The word stored where the next step fetches is the instruction the next step runs (log entry 2). -/
def Obligations.FetchWordIsRun : Prop :=
  ∀ (s : State) (nbits w : Nat) (i : Instr), decodeTableWord nbits w = some i → 1 ≤ s.params.insnWidth →
    -2 ^ 31 ≤ s.params.codeBase → s.params.codeBase < 2 ^ 31 →
    ∃ t, exec i (s.withFetchWord nbits w) = .next t ∧
      step (s.withFetchWord nbits w) = .next { t with cyc := t.cyc + 1 }

/-- R62: what a fetch from address `p` gives, its tests in order. -/
def Obligations.FetchAtTests : Prop :=
  ∀ (s : State) (p : Word),
    (p.toInt < s.params.codeBase → fetchAt s p = .error (.fetchOutOfRange p)) ∧
      (s.params.codeBase ≤ p.toInt → (p.toInt - s.params.codeBase) % s.params.insnWidth ≠ 0 →
        fetchAt s p = .error (.fetchMisaligned p)) ∧
      (s.params.codeBase ≤ p.toInt → (p.toInt - s.params.codeBase) % s.params.insnWidth = 0 →
        s.params.codeBase + s.params.insnWidth * s.imem.length ≤ p.toInt → fetchAt s p = .ok (.nop 0 0 0 0)) ∧
      ∀ k i, p.toInt = s.params.codeBase + s.params.insnWidth * (k : Nat) → 1 ≤ s.params.insnWidth →
        (∃ slot, s.imem[k]? = some slot ∧ slotInstr k slot = .ok i) → fetchAt s p = .ok i

/-- R118: every turn of Fetch. -/
def Obligations.FetchStageTurns : Prop :=
  ∀ s : State,
    let f (i : Instr) : Latch := { Latch.bubble with instr := i, pc := s.pc }
    let pc' : Word := wrap32 (s.pc.toInt + s.params.insnWidth)
    (s.latchF.busy = true → fetchStage s = .next { s with turn := .fetch }) ∧
      (s.latchF.busy = false → s.latchF.stalled = true → s.latchD.stalled = true →
        fetchStage s = .next { s with turn := .fetch }) ∧
      (s.latchF.busy = false → s.latchF.stalled = true → s.latchD.stalled = false →
        fetchStage s = .next
          { s with
            turn := .fetch, latchF := { s.latchF with stalled := false }, latchD := { s.latchF with stalled := false } }) ∧
      (s.latchF.busy = false → s.latchF.stalled = false →
        (∀ e, fetchAt s s.pc = .error e → fetchStage s = .fault e) ∧
          ∀ i, fetchAt s s.pc = .ok i →
            (s.latchD.stalled = true →
              fetchStage s = .next { s with turn := .fetch, latchF := { f i with stalled := true }, pc := pc' }) ∧
            (s.latchD.stalled = false →
              fetchStage s = .next { s with turn := .fetch, latchF := f i, latchD := f i, pc := pc' }))

/-- R109: operand resolution. -/
def Obligations.OperandResolution : Prop :=
  ∀ (s : State) (r : Reg),
    (isValid s r = true → resolveOperand s r = .ready (readReg s r)) ∧
      (isValid s r = false → s.config.forwarding = true → s.latchX.instr.op = .load → destOf s.latchX.instr = some r →
        resolveOperand s r = .stall) ∧
      (isValid s r = false → s.config.forwarding = true →
        ¬ (s.latchX.instr.op = .load ∧ destOf s.latchX.instr = some r) →
        resolveOperand s r = .ready (fwdEntry s r)) ∧
      (isValid s r = false → s.config.forwarding = false → resolveOperand s r = .stall)

/-- R110: the branch's zero-flag hazard. -/
def Obligations.BranchZeroHazard : Prop :=
  ∀ s : State,
    (s.config.forwarding = true →
      (branchHazard s = true ↔
        ∃ op, (op = .add ∨ op = .sub ∨ op = .mul) ∧
          (s.latchX.instr.op = op ∨ s.latchM.instr.op = op ∨ s.latchW.instr.op = op))) ∧
      (s.config.forwarding = false → (branchHazard s = true ↔ s.latchD.stalled = false))

/-- R120, R111, R121: the Decode turn of every instruction but NOP: it waits while X is stalled; with a hazard it is held
and X takes a bubble; without one it takes its operands, reserves its destination and is copied into X. -/
def Obligations.DecodeTurns : Prop :=
  ∀ (i : Instr) (s : State), i.op ≠ .nop → s.turn = .decode →
    let isBranch := i.op = .bz ∨ i.op = .bnz
    let hazard :=
      (∃ r, ((sourcesOf i).rs1 = some r ∨ (sourcesOf i).rs2 = some r) ∧ resolveOperand s r = .stall) ∨
        (isBranch ∧ branchHazard s = true) ∨ ∃ r, destOf i = some r ∧ isValid s r = false
    (s.latchX.stalled = true → exec i s = .next { s with latchD := { s.latchD with stalled := true } }) ∧
      (s.latchX.stalled = false → hazard →
        exec i s = .next { s with latchD := { s.latchD with stalled := true }, latchX := Latch.bubble }) ∧
      (s.latchX.stalled = false → ¬ hazard →
        ∃ d : Latch, exec i s = .next
            { s with
              latchD := d, latchX := d
              valid := match destOf i with
                | some r => s.valid.set r false
                | none => s.valid } ∧
          (∀ r, (sourcesOf i).rs1 = some r → resolveOperand s r = .ready d.rs1Value) ∧
          (∀ r, (sourcesOf i).rs2 = some r → resolveOperand s r = .ready d.rs2Value) ∧
          ((sourcesOf i).rs1 = none → d.rs1Value = s.latchD.rs1Value) ∧
          ((sourcesOf i).rs2 = none → d.rs2Value = s.latchD.rs2Value) ∧
          { d with rs1Value := 0, rs2Value := 0 } =
            { s.latchD with rs1Value := 0, rs2Value := 0, stalled := false })

/-! ### The instructions -/

/-- R140. -/
def Obligations.AddRuns : Prop :=
  ∀ (rd rs1 rs2 : Reg) (imm : Word) (s : State),
    let i : Instr := .add rd rs1 rs2 imm
    let v : Word := wrap32 (s.latchX.rs1Value.toInt + s.latchX.rs2Value.toInt)
    i.op.code = 1 ∧ sourcesOf i = ⟨some rs1, some rs2⟩ ∧ destOf i = some rd ∧
      InTurn .execute i s
        { s with
          latchX := { s.latchX with buffer := v }, latchM := { s.latchX with buffer := v }, z := decide (v = 0)
          fwd := s.fwd.set rd v } ∧
      InTurn .memory i s { s with fwd := s.fwd.set rd s.latchM.buffer, latchW := s.latchM } ∧
      InTurn .writeback i s
        { s with
          regs := s.regs.set rd s.latchW.buffer, valid := s.valid.set rd true, fwd := s.fwd.set rd s.latchW.buffer
          z := decide (s.latchW.buffer = 0) }

/-- R141. -/
def Obligations.SubRuns : Prop :=
  ∀ (rd rs1 rs2 : Reg) (imm : Word) (s : State),
    let i : Instr := .sub rd rs1 rs2 imm
    let v : Word := wrap32 (s.latchX.rs1Value.toInt - s.latchX.rs2Value.toInt)
    i.op.code = 2 ∧ sourcesOf i = ⟨some rs1, some rs2⟩ ∧ destOf i = some rd ∧
      InTurn .execute i s
        { s with
          latchX := { s.latchX with buffer := v }, latchM := { s.latchX with buffer := v }, z := decide (v = 0)
          fwd := s.fwd.set rd v } ∧
      InTurn .memory i s { s with fwd := s.fwd.set rd s.latchM.buffer, latchW := s.latchM } ∧
      InTurn .writeback i s
        { s with
          regs := s.regs.set rd s.latchW.buffer, valid := s.valid.set rd true, fwd := s.fwd.set rd s.latchW.buffer
          z := decide (s.latchW.buffer = 0) }

/-- R142: the first Execute cycle holds the product in X and puts a bubble into M; the second publishes and advances. -/
def Obligations.MulRuns : Prop :=
  ∀ (rd rs1 rs2 : Reg) (imm : Word) (s : State),
    let i : Instr := .mul rd rs1 rs2 imm
    let v : Word := wrap32 (s.latchX.rs1Value.toInt * s.latchX.rs2Value.toInt)
    i.op.code = 3 ∧ sourcesOf i = ⟨some rs1, some rs2⟩ ∧ destOf i = some rd ∧
      (s.latchX.stalled = false →
        InTurn .execute i s
          { s with latchX := { s.latchX with buffer := v, stalled := true }, latchM := Latch.bubble }) ∧
      (s.latchX.stalled = true →
        InTurn .execute i s
          { s with
            latchX := { s.latchX with stalled := false }, latchM := { s.latchX with stalled := false }
            z := decide (s.latchX.buffer = 0), fwd := s.fwd.set rd s.latchX.buffer }) ∧
      InTurn .memory i s { s with fwd := s.fwd.set rd s.latchM.buffer, latchW := s.latchM } ∧
      InTurn .writeback i s
        { s with
          regs := s.regs.set rd s.latchW.buffer, valid := s.valid.set rd true, fwd := s.fwd.set rd s.latchW.buffer
          z := decide (s.latchW.buffer = 0) }

/-- R150 to R152: one bit of the result is the operation on that bit of the operands; Z is untouched. -/
def Obligations.BitwiseRuns : Prop :=
  ∀ (rd rs1 rs2 : Reg) (imm : Word) (s : State),
    ∀ p ∈ ([(.and rd rs1 rs2 imm, 4, fun a b => a && b), (.or rd rs1 rs2 imm, 5, fun a b => a || b),
        (.xor rd rs1 rs2 imm, 6, fun a b => a ^^ b)] : List (Instr × BitVec 4 × (Bool → Bool → Bool))),
      p.1.op.code = p.2.1 ∧ sourcesOf p.1 = ⟨some rs1, some rs2⟩ ∧ destOf p.1 = some rd ∧
      (∃ v : Word, (∀ n < 32, v.getLsbD n = p.2.2 (s.latchX.rs1Value.getLsbD n) (s.latchX.rs2Value.getLsbD n)) ∧
        InTurn .execute p.1 s
          { s with
            latchX := { s.latchX with buffer := v }, latchM := { s.latchX with buffer := v }
            fwd := s.fwd.set rd v }) ∧
      InTurn .memory p.1 s { s with fwd := s.fwd.set rd s.latchM.buffer, latchW := s.latchM } ∧
      InTurn .writeback p.1 s
        { s with
          regs := s.regs.set rd s.latchW.buffer, valid := s.valid.set rd true
          fwd := s.fwd.set rd s.latchW.buffer }

/-- R153. -/
def Obligations.MovcRuns : Prop :=
  ∀ (rd : Reg) (rs1 rs2 : Int) (imm : Word) (s : State),
    let i : Instr := .movc rd rs1 rs2 imm
    i.op.code = 9 ∧ sourcesOf i = ⟨none, none⟩ ∧ destOf i = some rd ∧
      InTurn .execute i s
        { s with
          latchX := { s.latchX with buffer := imm }, latchM := { s.latchX with buffer := imm }
          fwd := s.fwd.set rd imm } ∧
      InTurn .memory i s { s with fwd := s.fwd.set rd s.latchM.buffer, latchW := s.latchM } ∧
      InTurn .writeback i s
        { s with
          regs := s.regs.set rd s.latchW.buffer, valid := s.valid.set rd true
          fwd := s.fwd.set rd s.latchW.buffer }

/-- R160, R64, R184: an address in range is read and published; another faults before the access. -/
def Obligations.LoadRuns : Prop :=
  ∀ (rd rs1 : Reg) (rs2 : Int) (imm : Word) (s : State),
    let i : Instr := .load rd rs1 rs2 imm
    let ea : Word := wrap32 (s.latchX.rs1Value.toInt + imm.toInt)
    i.op.code = 7 ∧ sourcesOf i = ⟨some rs1, none⟩ ∧ destOf i = some rd ∧
      InTurn .execute i s
        { s with latchX := { s.latchX with memAddress := ea }, latchM := { s.latchX with memAddress := ea } } ∧
      (∀ k : Nat, s.latchM.memAddress.toInt = k → k < s.params.dmemWords →
        InTurn .memory i s
          { s with
            latchM := { s.latchM with buffer := s.dmem.read k }, latchW := { s.latchM with buffer := s.dmem.read k }
            fwd := s.fwd.set rd (s.dmem.read k) }) ∧
      (¬ (0 ≤ s.latchM.memAddress.toInt ∧ s.latchM.memAddress.toInt < s.params.dmemWords) → s.turn = .memory →
        exec i s = .fault (.dataAddressOutOfRange s.latchM.pc s.latchM.memAddress)) ∧
      InTurn .writeback i s
        { s with
          regs := s.regs.set rd s.latchW.buffer, valid := s.valid.set rd true
          fwd := s.fwd.set rd s.latchW.buffer }

/-- R161, R64, R184: the Execute re-check of the value operand, and the write of exactly one word, or the fault.
The premise is the model's canonical form of data memory (log entry 6). -/
def Obligations.StoreRuns : Prop :=
  ∀ (rd : Int) (rs1 rs2 : Reg) (imm : Word) (s : State), s.dmem.wf = true →
    let i : Instr := .store rd rs1 rs2 imm
    let ea : Word := wrap32 (s.latchX.rs2Value.toInt + imm.toInt)
    i.op.code = 8 ∧ sourcesOf i = ⟨some rs1, some rs2⟩ ∧ destOf i = none ∧
      (¬ (s.latchM.instr.op = .load ∧ destOf s.latchM.instr = some rs1) →
        InTurn .execute i s
          { s with latchX := { s.latchX with memAddress := ea }, latchM := { s.latchX with memAddress := ea } }) ∧
      (s.latchM.instr.op = .load → destOf s.latchM.instr = some rs1 →
        InTurn .execute i s
          { s with
            latchX := { s.latchX with memAddress := ea, rs1Value := fwdEntry s rs1 }
            latchM := { s.latchX with memAddress := ea, rs1Value := fwdEntry s rs1 } }) ∧
      (∀ k : Nat, s.latchM.memAddress.toInt = k → k < s.params.dmemWords →
        ∃ m : Memory, m.wf = true ∧ (∀ a, m.read a = if a = k then s.latchM.rs1Value else s.dmem.read a) ∧
          InTurn .memory i s { s with dmem := m, latchW := s.latchM }) ∧
      (¬ (0 ≤ s.latchM.memAddress.toInt ∧ s.latchM.memAddress.toInt < s.params.dmemWords) → s.turn = .memory →
        exec i s = .fault (.dataAddressOutOfRange s.latchM.pc s.latchM.memAddress)) ∧
      InTurn .writeback i s s

/-- R170, R171, R175: BZ is taken exactly when Z = 1, BNZ exactly when Z = 0; a taken branch redirects PC relative to its
own address, releases X's reservation and flushes F, D and X; one that is not taken changes nothing. -/
def Obligations.BranchesRun : Prop :=
  ∀ (rd rs1 rs2 : Int) (imm : Word) (s : State),
    ∀ p ∈ ([(.bz rd rs1 rs2 imm, 10, true), (.bnz rd rs1 rs2 imm, 11, false)] : List (Instr × BitVec 4 × Bool)),
      p.1.op.code = p.2.1 ∧ sourcesOf p.1 = ⟨none, none⟩ ∧ destOf p.1 = none ∧
      InTurn .execute p.1 s { s with latchM := s.latchX } ∧
      (s.z = p.2.2 →
        InTurn .memory p.1 s
          { s with
            pc := wrap32 (s.latchM.pc.toInt + imm.toInt), valid := releasedValid s.latchX s.valid
            latchF := Latch.bubble, latchD := Latch.bubble, latchX := Latch.bubble, latchW := s.latchM }) ∧
      (s.z ≠ p.2.2 → InTurn .memory p.1 s { s with latchW := s.latchM }) ∧
      InTurn .writeback p.1 s s

/-- R172. -/
def Obligations.JumpRuns : Prop :=
  ∀ (rd : Int) (rs1 : Reg) (rs2 : Int) (imm : Word) (s : State),
    let i : Instr := .jump rd rs1 rs2 imm
    let target : Word := wrap32 (s.latchX.rs1Value.toInt + imm.toInt)
    i.op.code = 12 ∧ sourcesOf i = ⟨some rs1, none⟩ ∧ destOf i = none ∧
      InTurn .execute i s
        { s with latchX := { s.latchX with buffer := target }, latchM := { s.latchX with buffer := target } } ∧
      InTurn .memory i s
        { s with
          pc := s.latchM.buffer, valid := releasedValid s.latchX (releasedValid s.latchD s.valid)
          latchF := Latch.bubble, latchD := Latch.bubble, latchX := Latch.bubble, latchW := s.latchM } ∧
      InTurn .writeback i s s

/-- R173. -/
def Obligations.HaltRuns : Prop :=
  ∀ (rd rs1 rs2 : Int) (imm : Word) (s : State),
    let i : Instr := .halt rd rs1 rs2 imm
    let frozen : Latch := { Latch.bubble with stalled := true }
    i.op.code = 13 ∧ sourcesOf i = ⟨none, none⟩ ∧ destOf i = none ∧
      InTurn .execute i s { s with latchF := frozen, latchD := frozen, latchM := s.latchX } ∧
      InTurn .memory i s { s with latchX := frozen, latchW := s.latchM } ∧
      InTurn .writeback i s
        { s with
          pc := wrap32 (s.params.codeBase + s.params.insnWidth * (s.imem.length + s.params.drainMargin))
          latchM := frozen }

/-- R174, R122. -/
def Obligations.NopRuns : Prop :=
  ∀ (rd rs1 rs2 : Int) (imm : Word) (s : State),
    let i : Instr := .nop rd rs1 rs2 imm
    i.op.code = 0 ∧ sourcesOf i = ⟨none, none⟩ ∧ destOf i = none ∧
      (s.latchX.stalled = false → InTurn .decode i s { s with latchX := s.latchD }) ∧
      (s.latchX.stalled = true → InTurn .decode i s s) ∧
      InTurn .execute i s { s with latchM := s.latchX } ∧ InTurn .memory i s { s with latchW := s.latchM } ∧
      InTurn .writeback i s s

/-! ### What a tick does to each kind of state -/

/-- R15, R61, R73: no step changes the parameters, the configuration or the instruction memory. -/
def Obligations.StepKeepsLaunchInputs : Prop :=
  ∀ s t : State, step s = .next t → t.params = s.params ∧ t.config = s.config ∧ t.imem = s.imem

/-- R38, R39: each tick adds 1 to CYC, and 1 to DONE exactly when Writeback processed something other than a NOP. -/
def Obligations.TickCounts : Prop :=
  ∀ s t : State, TickTo s t →
    t.cyc = s.cyc + 1 ∧
      (s.latchW.busy = false → s.latchW.instr.op ≠ .nop → t.done = s.done + 1) ∧
      (s.latchW.busy = true ∨ s.latchW.instr.op = .nop → t.done = s.done)

/-- R32: a tick writes a register only by Writeback's commit of the instruction in W. -/
def Obligations.RegistersChangeByCommit : Prop :=
  ∀ (s t : State) (r : Reg), TickTo s t →
    readReg t r = if writerOf s.latchW = some r then s.latchW.buffer else readReg s r

/-- R60, R67: a tick writes data memory only by the STORE in M, and only the word at its effective address.
The premise is the model's canonical form of data memory (log entry 6). -/
def Obligations.DataMemoryChangesByStore : Prop :=
  ∀ s t : State, s.dmem.wf = true → TickTo s t →
    (s.latchM.live → s.latchM.instr.op = .store → ¬ HaltInWriteback s →
      ∀ a, t.dmem.read a =
        if (a : Int) = s.latchM.memAddress.toInt then s.latchM.rs1Value else s.dmem.read a) ∧
      (¬ (s.latchM.live ∧ s.latchM.instr.op = .store ∧ ¬ HaltInWriteback s) → t.dmem = s.dmem)

/-- R36: with no ADD, SUB or MUL in W or in X, a tick leaves Z alone; with one in W and none in X, Z tells whether its
result was 0. -/
def Obligations.ZeroFlagChangesByArithmetic : Prop :=
  ∀ s t : State, TickTo s t → isArith s.latchX.instr.op = false →
    (s.latchW.busy = true ∨ isArith s.latchW.instr.op = false → t.z = s.z) ∧
      (s.latchW.busy = false → isArith s.latchW.instr.op = true → t.z = decide (s.latchW.buffer = 0))

/-- R37: the ways PC moves in a tick: not at all, by INSN_WIDTH, by a redirect in M and the fetch at its target, and by a
HALT in W. -/
def Obligations.PcMoves : Prop :=
  ∀ s t : State, Inv s → TickTo s t →
    (HaltInWriteback s → t.pc = wrap32 (termPc s)) ∧
      (¬ HaltInWriteback s → ∀ p, Redirects s p → t.pc = wrap32 (p.toInt + s.params.insnWidth)) ∧
      (¬ HaltInWriteback s → (∀ p, ¬ Redirects s p) →
        t.pc = s.pc ∨ t.pc = wrap32 (s.pc.toInt + s.params.insnWidth))

/-- R203, R41: the stages prime one after another, one a tick, and never become unprimed again. -/
def Obligations.StagesPrimeInOrder : Prop :=
  ∀ s t : State, Inv s → TickTo s t →
    t.latchD.busy = false ∧ t.latchX.busy = s.latchD.busy ∧ t.latchM.busy = s.latchX.busy ∧
      t.latchW.busy = s.latchM.busy

/-- R142, R120: a MUL that no older transfer flushes stays in X for a second tick, in which it moves on to M; what is in D
meanwhile waits. -/
def Obligations.MulTakesTwoExecuteTicks : Prop :=
  ∀ s t : State, Inv s → TickTo s t → s.latchX.instr.op = .mul → (∀ p, ¬ Redirects s p) →
    (s.latchX.stalled = false →
      t.latchX = { s.latchX with
          buffer := mulWrap s.latchX.rs1Value s.latchX.rs2Value, stalled := true } ∧
        t.latchM = Latch.bubble ∧ (s.latchD.instr.op ≠ .nop → t.latchD = { s.latchD with stalled := true })) ∧
      (s.latchX.stalled = true → t.latchM = { s.latchX with stalled := false })

/-! ### Faults, and what never happens -/

/-- R184, R181: a LOAD or STORE in M with an address out of range ends the run in its Memory turn. -/
def Obligations.BadAccessFaults : Prop :=
  ∀ s : State, Ticking s → ¬ HaltInWriteback s → BadAccess s →
    step s = .fault (.dataAddressOutOfRange s.latchM.pc s.latchM.memAddress)

/-- R180, R185, R188, R224: the only faults of a tick of a launched machine: a bad access in M; and a fetch below CODE_BASE
or off the grid, from the target of a transfer taken in this tick or from a PC that has wrapped. Where the
wrapped PC is at or above CODE_BASE the model follows R62 and not R224 (log entry 14). -/
def Obligations.OnlyTheseFaults : Prop :=
  ∀ (s : State) (f : Fault), Inv s → PcOk s → Ticking s → step s = .fault f →
    (BadAccess s ∧ f = .dataAddressOutOfRange s.latchM.pc s.latchM.memAddress) ∨
      ∃ p : Word, (Redirects s p ∨ p = s.pc ∧ s.pc.toInt < -2 ^ 31 + s.params.insnWidth) ∧
        ((f = .fetchOutOfRange p ∧ p.toInt < s.params.codeBase) ∨
          (f = .fetchMisaligned p ∧ s.params.codeBase ≤ p.toInt ∧
            (p.toInt - s.params.codeBase) % s.params.insnWidth ≠ 0))

/-- R192: every instruction may run at any time: no state of a launched machine is refused. -/
def Obligations.NoRefusalAfterLaunch : Prop :=
  ∀ (s : State) (r : Refusal), s.status ≠ .launching → step s ≠ .refused r

/-- R181, R105: after a fault in a tick the report is of the state the tick began in; after a launch fault it is of the
launch inputs. -/
def Obligations.ReportAfterFault : Prop :=
  (∀ (s : State) (f : Fault), s.status = .running → step s = .fault f →
    reportPort s = some
      { regs := s.regs.toList, valid := s.valid.toList
        dmem := (List.range s.params.reportWindow).map s.dmem.read, total := s.imem.length, done := s.done
        cyc := s.cyc, stop := .fault f }) ∧
    ∀ (l : LaunchInputs) (f : Fault), step (supplied l) = .fault f →
      reportPort (supplied l) = some
        { regs := l.regs.toList, valid := List.replicate 32 true
          dmem := (List.range l.params.reportWindow).map l.dmem.read, total := l.imem.length, done := 0, cyc := 0
          stop := .fault f }

/-! ### Invariants that every step keeps -/

/-- R33, R41, R42, R130, R131, R161, R173: single writer, forwarding table, pipeline shape. -/
def Obligations.StepKeepsInvariant : Prop := ∀ s t : State, Inv s → step s = .next t → Inv t

/-- The data memory keeps the canonical form, which is the model's (log entry 6), and lists no word at or past DMEM_WORDS
(R63). -/
def Obligations.StepKeepsMemoryForm : Prop := ∀ s t : State, MemoryOk s → step s = .next t → MemoryOk t

/-- R38, R193: DONE ≤ CYC ≤ CYCLE_BUDGET. -/
def Obligations.StepKeepsCounterBounds : Prop := ∀ s t : State, CountersOk s → step s = .next t → CountersOk t

/-- R66, R224: PC stays on the instruction grid at or above CODE_BASE unless it wraps. (A wrapped PC may be at or above
CODE_BASE too: log entry 14.) -/
def Obligations.StepKeepsPcOnGrid : Prop := ∀ s t : State, Inv s → PcOk s → step s = .next t → PcOk t

/-- Two data memories in canonical form that read alike at every address are equal (log entry 6). -/
def Obligations.MemoryIsItsReads : Prop :=
  ∀ m n : Memory, m.wf = true → n.wf = true → (∀ a, m.read a = n.read a) → m = n

/-! ### Whole-machine rules -/

/-- R132, R176: after a taken transfer every register is valid, the transfer is in W, X and M hold nothing that was
fetched behind it, and F and D hold what the target address holds. -/
def Obligations.TakenTransferFlushes : Prop :=
  ∀ (s t : State) (p : Word), Inv s → TickTo s t → ¬ HaltInWriteback s → Redirects s p →
    (∀ r, isValid t r = true) ∧ t.latchW = s.latchM ∧ t.latchX = Latch.bubble ∧ t.latchM = Latch.bubble ∧
      ∃ i, fetchAt s p = .ok i ∧ t.latchF = { Latch.bubble with instr := i, pc := p } ∧ t.latchD = t.latchF

/-- R173, R221: when a HALT is in W the tick counts it, sets PC to TERM_PC and leaves F, D, X and M frozen and every
register valid; the next step stops the run with Completed. -/
def Obligations.HaltEndsTheRun : Prop :=
  ∀ s : State, Inv s → Ticking s → HaltInWriteback s →
    ∃ t, step s = .next t ∧ t.done = s.done + 1 ∧ t.pc.toInt = termPc s ∧ (∀ r, isValid t r = true) ∧
      t.latchF = frozenBubble ∧ t.latchD = frozenBubble ∧ t.latchX = frozenBubble ∧ t.latchM = frozenBubble ∧
      t.latchW = s.latchW ∧ t.regs = s.regs ∧ t.dmem = s.dmem ∧ step t = .next { t with status := .completed }

/-- R46: the run mode has no effect on any state. It selects whether the trace is shown, which is the latches and PC at the
port (R100), and these with CYC in the entry of R106; that the model gives both is its own reading (log entry 13). -/
def Obligations.TraceHasNoEffect : Prop :=
  ∀ (s : State) (b : Bool),
    let shown : TraceSnapshot := ⟨s.latchF, s.latchD, s.latchX, s.latchM, s.latchW, s.pc⟩
    step (setTrace b s) = mapNext (setTrace b) (step s) ∧
      tracePort (setTrace b s) = (if b then some shown else none) ∧
      traceEntry (setTrace b s) = if b then some ⟨shown, s.cyc⟩ else none

/-- R193, R196: no instruction reads or writes CYC or DONE, and the trace port shows neither. The entry of R106, which shows
CYC (log entry 13), does not show DONE. -/
def Obligations.CountersAreOnlyReported : Prop :=
  ∀ (i : Instr) (s : State) (c d : Nat),
    exec i (setCounters c d s) = mapNext (setCounters c d) (exec i s) ∧
      tracePort (setCounters c d s) = tracePort s ∧ traceEntry (setCounters s.cyc d s) = traceEntry s

/-- R131: two states that differ only in the forwarding table, both meeting the invariant, step alike: no entry that
matters can differ, and none that can differ reaches anything else. -/
def Obligations.ForwardingTableIsNotObservable : Prop :=
  ∀ (s : State) (f : Vector Word 32), Inv s → Inv { s with fwd := f } →
    mapNext forgetFwd (step { s with fwd := f }) = mapNext forgetFwd (step s)

/-- R83: the fields an opcode ignores have no effect on any other state. -/
def Obligations.IgnoredFieldsHaveNoEffect : Prop := ∀ s : State, step (forget s) = mapNext forget (step s)

/-- R70, R131, R133, R230: the pipeline refines the sequential reading of the instruction rules, with forwarding or
without: a tick leaves the architectural state that the machine stands for as it is, or advances it by exactly one
sequential instruction. -/
def Obligations.PipelineRefinesSequential : Prop :=
  ∀ s t : State, Inv s → TickTo s t → drained t = drained s ∨ drained t = seqStep s (drained s)

/-- R140 to R161, R232: an instruction that transfers no control, fetched from the last slot into a pipeline with nothing
in flight, has its whole sequential effect after five ticks, a MUL after six. -/
def Obligations.LoneInstructionCompletes : Prop :=
  ∀ (s : State) (i : Instr), Inv s → s.status = .running → Quiet s → fetchAt s s.pc = .ok i →
    s.pc.toInt + s.params.insnWidth = endPc s → 5 ≤ s.params.drainMargin →
    i.op ≠ .bz → i.op ≠ .bnz → i.op ≠ .jump → i.op ≠ .halt →
    let n := if i.op = .mul then 6 else 5
    let a := (seqExec s i s.pc (committed s)).arch
    s.cyc + n ≤ s.config.cycleBudget → a.status = .going →
    ∃ t, Sys2Proof.core.run n s = .next t ∧ t.regs = a.regs ∧ t.z = a.z ∧ t.dmem = a.dmem ∧ t.done = a.done ∧
      t.cyc = s.cyc + n ∧ ∀ r, isValid t r = true

/-- Two runs of one launch, one with FORWARDING and one without, that both stop with Completed, end alike. -/
def Sys2Proof.Machine.ForwardingAlike (l : LaunchInputs) : Prop :=
  ∀ (m n : Nat) (s t : State),
    StopsIn (supplied { l with config := { l.config with forwarding := true } }) m .completed s →
    StopsIn (supplied { l with config := { l.config with forwarding := false } }) n .completed t →
    s.regs = t.regs ∧ s.valid = t.valid ∧ s.dmem = t.dmem ∧ s.z = t.z ∧ s.done = t.done

/-- R133 with a drain margin under which every run drains (R222): the premise is the model's (log entry 12). -/
def Obligations.ForwardingEquivalence : Prop := ∀ l : LaunchInputs, 5 ≤ l.params.drainMargin → ForwardingAlike l

/-- R133 as it stands, for every drain margin that R13 allows. It fails: with DRAIN_MARGIN = 0 the two runs of
`MOVC R1,#1; ADD R2,R1,R1; NOP; NOP` stop with a different R1 (log entry 12). -/
def Obligations.ForwardingEquivalenceAtAnyMargin : Prop := ∀ l : LaunchInputs, ForwardingAlike l
end

