-- ==== Sys2Proof/Laws/Compare.lean ====
section
/-! SUPPORT. One lemma for each field of State and each change that comparisons of two runs make (R46, R131, R193), and
what `mapNext` does to each outcome. -/

namespace Sys2Proof.Machine

variable (s : State)

@[simp] theorem mapNext_next (f : State → State) : mapNext f (.next s) = .next (f s) := rfl
@[simp] theorem mapNext_fault (f : State → State) (r : Fault) : mapNext f (.fault r) = .fault r := rfl
@[simp] theorem mapNext_refused (f : State → State) (r : Refusal) : mapNext f (.refused r) = .refused r := rfl

/-! ### setTrace -/

@[simp] theorem setTrace_status (b : Bool) : (setTrace b s).status = s.status := rfl
@[simp] theorem setTrace_params (b : Bool) : (setTrace b s).params = s.params := rfl
@[simp] theorem setTrace_config (b : Bool) : (setTrace b s).config = { s.config with trace := b } := rfl
@[simp] theorem setTrace_imem (b : Bool) : (setTrace b s).imem = s.imem := rfl
@[simp] theorem setTrace_regs (b : Bool) : (setTrace b s).regs = s.regs := rfl
@[simp] theorem setTrace_valid (b : Bool) : (setTrace b s).valid = s.valid := rfl
@[simp] theorem setTrace_fwd (b : Bool) : (setTrace b s).fwd = s.fwd := rfl
@[simp] theorem setTrace_z (b : Bool) : (setTrace b s).z = s.z := rfl
@[simp] theorem setTrace_dmem (b : Bool) : (setTrace b s).dmem = s.dmem := rfl
@[simp] theorem setTrace_pc (b : Bool) : (setTrace b s).pc = s.pc := rfl
@[simp] theorem setTrace_cyc (b : Bool) : (setTrace b s).cyc = s.cyc := rfl
@[simp] theorem setTrace_done (b : Bool) : (setTrace b s).done = s.done := rfl
@[simp] theorem setTrace_latchF (b : Bool) : (setTrace b s).latchF = s.latchF := rfl
@[simp] theorem setTrace_latchD (b : Bool) : (setTrace b s).latchD = s.latchD := rfl
@[simp] theorem setTrace_latchX (b : Bool) : (setTrace b s).latchX = s.latchX := rfl
@[simp] theorem setTrace_latchM (b : Bool) : (setTrace b s).latchM = s.latchM := rfl
@[simp] theorem setTrace_latchW (b : Bool) : (setTrace b s).latchW = s.latchW := rfl
@[simp] theorem setTrace_turn (b : Bool) : (setTrace b s).turn = s.turn := rfl

/-! ### forgetFwd -/

@[simp] theorem forgetFwd_status : (forgetFwd s).status = s.status := rfl
@[simp] theorem forgetFwd_params : (forgetFwd s).params = s.params := rfl
@[simp] theorem forgetFwd_config : (forgetFwd s).config = s.config := rfl
@[simp] theorem forgetFwd_imem : (forgetFwd s).imem = s.imem := rfl
@[simp] theorem forgetFwd_regs : (forgetFwd s).regs = s.regs := rfl
@[simp] theorem forgetFwd_valid : (forgetFwd s).valid = s.valid := rfl
@[simp] theorem forgetFwd_fwd : (forgetFwd s).fwd = Vector.replicate 32 0 := rfl
@[simp] theorem forgetFwd_z : (forgetFwd s).z = s.z := rfl
@[simp] theorem forgetFwd_dmem : (forgetFwd s).dmem = s.dmem := rfl
@[simp] theorem forgetFwd_pc : (forgetFwd s).pc = s.pc := rfl
@[simp] theorem forgetFwd_cyc : (forgetFwd s).cyc = s.cyc := rfl
@[simp] theorem forgetFwd_done : (forgetFwd s).done = s.done := rfl
@[simp] theorem forgetFwd_latchF : (forgetFwd s).latchF = s.latchF := rfl
@[simp] theorem forgetFwd_latchD : (forgetFwd s).latchD = s.latchD := rfl
@[simp] theorem forgetFwd_latchX : (forgetFwd s).latchX = s.latchX := rfl
@[simp] theorem forgetFwd_latchM : (forgetFwd s).latchM = s.latchM := rfl
@[simp] theorem forgetFwd_latchW : (forgetFwd s).latchW = s.latchW := rfl
@[simp] theorem forgetFwd_turn : (forgetFwd s).turn = s.turn := rfl

/-! ### setCounters -/

@[simp] theorem setCounters_status (c d : Nat) : (setCounters c d s).status = s.status := rfl
@[simp] theorem setCounters_params (c d : Nat) : (setCounters c d s).params = s.params := rfl
@[simp] theorem setCounters_config (c d : Nat) : (setCounters c d s).config = s.config := rfl
@[simp] theorem setCounters_imem (c d : Nat) : (setCounters c d s).imem = s.imem := rfl
@[simp] theorem setCounters_regs (c d : Nat) : (setCounters c d s).regs = s.regs := rfl
@[simp] theorem setCounters_valid (c d : Nat) : (setCounters c d s).valid = s.valid := rfl
@[simp] theorem setCounters_fwd (c d : Nat) : (setCounters c d s).fwd = s.fwd := rfl
@[simp] theorem setCounters_z (c d : Nat) : (setCounters c d s).z = s.z := rfl
@[simp] theorem setCounters_dmem (c d : Nat) : (setCounters c d s).dmem = s.dmem := rfl
@[simp] theorem setCounters_pc (c d : Nat) : (setCounters c d s).pc = s.pc := rfl
@[simp] theorem setCounters_cyc (c d : Nat) : (setCounters c d s).cyc = c := rfl
@[simp] theorem setCounters_done (c d : Nat) : (setCounters c d s).done = d := rfl
@[simp] theorem setCounters_latchF (c d : Nat) : (setCounters c d s).latchF = s.latchF := rfl
@[simp] theorem setCounters_latchD (c d : Nat) : (setCounters c d s).latchD = s.latchD := rfl
@[simp] theorem setCounters_latchX (c d : Nat) : (setCounters c d s).latchX = s.latchX := rfl
@[simp] theorem setCounters_latchM (c d : Nat) : (setCounters c d s).latchM = s.latchM := rfl
@[simp] theorem setCounters_latchW (c d : Nat) : (setCounters c d s).latchW = s.latchW := rfl
@[simp] theorem setCounters_turn (c d : Nat) : (setCounters c d s).turn = s.turn := rfl

end Sys2Proof.Machine
end

