-- ==== Sys2Proof/Laws/Memory.lean ====
section
/-! SUPPORT. The laws of the data memory: canonical form, range, and read after write (R63, R70). -/

namespace Sys2Proof.Machine

theorem Memory.wfFrom_mono {lo lo' : Nat} {m : Memory} (h : m.wfFrom lo' = true) (hle : lo ≤ lo') :
    m.wfFrom lo = true := by
  cases m with
  | nil => rfl
  | cons c rest =>
    simp only [Memory.wfFrom, Bool.and_eq_true, decide_eq_true_eq] at h ⊢
    exact ⟨⟨by omega, h.1.2⟩, h.2⟩

theorem Memory.wfFrom_cons_iff {lo a : Nat} {v : Word} {rest : Memory} :
    Memory.wfFrom lo ((a, v) :: rest) = true ↔ lo ≤ a ∧ v ≠ Memory.blank ∧ rest.wfFrom (a + 1) = true := by
  simp [Memory.wfFrom, and_assoc]

theorem Memory.wfFrom_cons {lo a : Nat} {rest : Memory} (v : Word) (hlo : lo ≤ a) (h : rest.wfFrom (a + 1) = true) :
    (Memory.cons a v rest).wfFrom lo = true := by
  unfold Memory.cons
  split
  · exact Memory.wfFrom_mono h (by omega)
  · exact Memory.wfFrom_cons_iff.2 ⟨hlo, ‹_›, h⟩

/-- A write keeps the canonical form. -/
theorem Memory.wfFrom_write {lo a : Nat} {m : Memory} (v : Word) (hlo : lo ≤ a) (h : m.wfFrom lo = true) :
    (m.write a v).wfFrom lo = true := by
  induction m generalizing lo with
  | nil => exact Memory.wfFrom_cons v hlo rfl
  | cons c rest ih =>
    obtain ⟨b, u⟩ := c
    obtain ⟨hb, hu, hr⟩ := Memory.wfFrom_cons_iff.1 h
    unfold Memory.write
    split
    · exact Memory.wfFrom_cons v hlo (Memory.wfFrom_cons_iff.2 ⟨by omega, hu, hr⟩)
    · split
      · subst a; exact Memory.wfFrom_cons v hlo hr
      · exact Memory.wfFrom_cons_iff.2 ⟨hb, hu, ih (by omega) hr⟩

theorem Memory.wf_write {m : Memory} (a : Nat) (v : Word) (h : m.wf = true) : (m.write a v).wf = true :=
  Memory.wfFrom_write v (Nat.zero_le a) h

theorem Memory.below_cons {n a : Nat} {rest : Memory} (v : Word) (ha : a < n) (h : Memory.below n rest = true) :
    Memory.below n (Memory.cons a v rest) = true := by
  unfold Memory.cons
  split
  · exact h
  · simpa [Memory.below, ha] using h

/-- A write below `n` lists nothing at or above `n`. -/
theorem Memory.below_write {n a : Nat} {m : Memory} (v : Word) (ha : a < n) (h : Memory.below n m = true) :
    Memory.below n (m.write a v) = true := by
  induction m with
  | nil => exact Memory.below_cons v ha h
  | cons c rest ih =>
    obtain ⟨b, u⟩ := c
    have hb : b < n ∧ Memory.below n rest = true := by simpa [Memory.below] using h
    unfold Memory.write
    split
    · exact Memory.below_cons v ha h
    · split
      · exact Memory.below_cons v ha hb.2
      · simpa [Memory.below, hb.1] using ih hb.2

/-- An address below the first listed one is unlisted. -/
theorem Memory.read_of_lt {lo a : Nat} {m : Memory} (h : m.wfFrom lo = true) (ha : a < lo) : m.read a = Memory.blank := by
  induction m generalizing lo with
  | nil => rfl
  | cons c rest ih =>
    obtain ⟨b, u⟩ := c
    obtain ⟨hb, -, hr⟩ := Memory.wfFrom_cons_iff.1 h
    rw [Memory.read, if_neg (by omega)]
    exact ih hr (by omega)

theorem Memory.read_cons {lo a b : Nat} {rest : Memory} (v : Word) (h : rest.wfFrom lo = true) (ha : a < lo) :
    (Memory.cons a v rest).read b = if b = a then v else rest.read b := by
  unfold Memory.cons
  split
  · split
    · next hv hb => rw [hb, hv, Memory.read_of_lt h ha]
    · rfl
  · rw [Memory.read]

/-- Read after write (R70): the word written, and every other word as before. -/
theorem Memory.read_write {lo a b : Nat} {m : Memory} (v : Word) (h : m.wfFrom lo = true) :
    (m.write a v).read b = if b = a then v else m.read b := by
  induction m generalizing lo with
  | nil => exact Memory.read_cons (lo := a + 1) v rfl (by omega)
  | cons c rest ih =>
    obtain ⟨d, u⟩ := c
    obtain ⟨-, hu, hr⟩ := Memory.wfFrom_cons_iff.1 h
    unfold Memory.write
    split
    · next hlt => exact Memory.read_cons v (Memory.wfFrom_cons_iff.2 ⟨Nat.le_refl d, hu, hr⟩) hlt
    · split
      · next hd =>
        subst hd
        rw [Memory.read_cons v hr (by omega), Memory.read]
        split <;> rfl
      · next hne =>
        rw [Memory.read, Memory.read, ih hr]
        by_cases hb : b = d
        · rw [if_pos hb, if_neg (by omega), if_pos hb]
        · rw [if_neg hb, if_neg hb]

end Sys2Proof.Machine
end

