-- ==== Sys2Proof/Laws/PerInstr.lean ====
section
/-! SUPPORT. Statements made of every instruction as syntax. -/

/-- R80, R83, R84: an instruction's record validates, and to that very instruction: no field is lost, the ignored ones
included, and what an `Instr` holds never fails the bounds check. -/
def Sys2Proof.Laws.RecordRoundTrip.Statement (i : Sys2Proof.Instr) : Prop := i.toRecord.toInstr = .ok i

namespace Sys2Proof.Laws.RecordRoundTrip

theorem checkReg_val (f : RegField) (r : Reg) : checkReg f (r.val : Int) = .ok r := by
  have h : ¬((r.val : Int) < 0 ∨ 31 < (r.val : Int)) := by omega
  simp only [checkReg, if_neg h]
  exact congrArg _ (Fin.ext (Nat.mod_eq_of_lt r.isLt))

theorem nop (rd rs1 rs2 : Int) (imm : Word) : Statement (.nop rd rs1 rs2 imm) := rfl

theorem add (rd rs1 rs2 : Reg) (imm : Word) : Statement (.add rd rs1 rs2 imm) := by
  simp [Statement, Instr.toRecord, Record.toInstr, Record.threeReg, checkReg_val]

theorem sub (rd rs1 rs2 : Reg) (imm : Word) : Statement (.sub rd rs1 rs2 imm) := by
  simp [Statement, Instr.toRecord, Record.toInstr, Record.threeReg, checkReg_val]

theorem mul (rd rs1 rs2 : Reg) (imm : Word) : Statement (.mul rd rs1 rs2 imm) := by
  simp [Statement, Instr.toRecord, Record.toInstr, Record.threeReg, checkReg_val]

theorem and (rd rs1 rs2 : Reg) (imm : Word) : Statement (.and rd rs1 rs2 imm) := by
  simp [Statement, Instr.toRecord, Record.toInstr, Record.threeReg, checkReg_val]

theorem or (rd rs1 rs2 : Reg) (imm : Word) : Statement (.or rd rs1 rs2 imm) := by
  simp [Statement, Instr.toRecord, Record.toInstr, Record.threeReg, checkReg_val]

theorem xor (rd rs1 rs2 : Reg) (imm : Word) : Statement (.xor rd rs1 rs2 imm) := by
  simp [Statement, Instr.toRecord, Record.toInstr, Record.threeReg, checkReg_val]

theorem load (rd rs1 : Reg) (rs2 : Int) (imm : Word) : Statement (.load rd rs1 rs2 imm) := by
  simp [Statement, Instr.toRecord, Record.toInstr, checkReg_val]

theorem store (rd : Int) (rs1 rs2 : Reg) (imm : Word) : Statement (.store rd rs1 rs2 imm) := by
  simp [Statement, Instr.toRecord, Record.toInstr, checkReg_val]

theorem movc (rd : Reg) (rs1 rs2 : Int) (imm : Word) : Statement (.movc rd rs1 rs2 imm) := by
  simp [Statement, Instr.toRecord, Record.toInstr, checkReg_val]

theorem bz (rd rs1 rs2 : Int) (imm : Word) : Statement (.bz rd rs1 rs2 imm) := rfl

theorem bnz (rd rs1 rs2 : Int) (imm : Word) : Statement (.bnz rd rs1 rs2 imm) := rfl

theorem jump (rd : Int) (rs1 : Reg) (rs2 : Int) (imm : Word) : Statement (.jump rd rs1 rs2 imm) := by
  simp [Statement, Instr.toRecord, Record.toInstr, checkReg_val]

theorem halt (rd rs1 rs2 : Int) (imm : Word) : Statement (.halt rd rs1 rs2 imm) := rfl

end Sys2Proof.Laws.RecordRoundTrip
end

