-- ==== Sys2Proof/Laws/State.lean ====
section
/-! SUPPORT. One lemma for each field of State and each shared operation, so that no proof unfolds a record update. -/

namespace Sys2Proof.Machine

variable (s : State)

/-! ### setZ -/

@[simp] theorem setZ_status (v : Word) : (setZ v s).status = s.status := rfl
@[simp] theorem setZ_params (v : Word) : (setZ v s).params = s.params := rfl
@[simp] theorem setZ_config (v : Word) : (setZ v s).config = s.config := rfl
@[simp] theorem setZ_imem (v : Word) : (setZ v s).imem = s.imem := rfl
@[simp] theorem setZ_regs (v : Word) : (setZ v s).regs = s.regs := rfl
@[simp] theorem setZ_valid (v : Word) : (setZ v s).valid = s.valid := rfl
@[simp] theorem setZ_fwd (v : Word) : (setZ v s).fwd = s.fwd := rfl
@[simp] theorem setZ_z (v : Word) : (setZ v s).z = (v == 0) := rfl
@[simp] theorem setZ_dmem (v : Word) : (setZ v s).dmem = s.dmem := rfl
@[simp] theorem setZ_pc (v : Word) : (setZ v s).pc = s.pc := rfl
@[simp] theorem setZ_cyc (v : Word) : (setZ v s).cyc = s.cyc := rfl
@[simp] theorem setZ_done (v : Word) : (setZ v s).done = s.done := rfl
@[simp] theorem setZ_latchF (v : Word) : (setZ v s).latchF = s.latchF := rfl
@[simp] theorem setZ_latchD (v : Word) : (setZ v s).latchD = s.latchD := rfl
@[simp] theorem setZ_latchX (v : Word) : (setZ v s).latchX = s.latchX := rfl
@[simp] theorem setZ_latchM (v : Word) : (setZ v s).latchM = s.latchM := rfl
@[simp] theorem setZ_latchW (v : Word) : (setZ v s).latchW = s.latchW := rfl
@[simp] theorem setZ_turn (v : Word) : (setZ v s).turn = s.turn := rfl

/-! ### setPc -/

@[simp] theorem setPc_status (v : Word) : (setPc v s).status = s.status := rfl
@[simp] theorem setPc_params (v : Word) : (setPc v s).params = s.params := rfl
@[simp] theorem setPc_config (v : Word) : (setPc v s).config = s.config := rfl
@[simp] theorem setPc_imem (v : Word) : (setPc v s).imem = s.imem := rfl
@[simp] theorem setPc_regs (v : Word) : (setPc v s).regs = s.regs := rfl
@[simp] theorem setPc_valid (v : Word) : (setPc v s).valid = s.valid := rfl
@[simp] theorem setPc_fwd (v : Word) : (setPc v s).fwd = s.fwd := rfl
@[simp] theorem setPc_z (v : Word) : (setPc v s).z = s.z := rfl
@[simp] theorem setPc_dmem (v : Word) : (setPc v s).dmem = s.dmem := rfl
@[simp] theorem setPc_pc (v : Word) : (setPc v s).pc = v := rfl
@[simp] theorem setPc_cyc (v : Word) : (setPc v s).cyc = s.cyc := rfl
@[simp] theorem setPc_done (v : Word) : (setPc v s).done = s.done := rfl
@[simp] theorem setPc_latchF (v : Word) : (setPc v s).latchF = s.latchF := rfl
@[simp] theorem setPc_latchD (v : Word) : (setPc v s).latchD = s.latchD := rfl
@[simp] theorem setPc_latchX (v : Word) : (setPc v s).latchX = s.latchX := rfl
@[simp] theorem setPc_latchM (v : Word) : (setPc v s).latchM = s.latchM := rfl
@[simp] theorem setPc_latchW (v : Word) : (setPc v s).latchW = s.latchW := rfl
@[simp] theorem setPc_turn (v : Word) : (setPc v s).turn = s.turn := rfl

/-! ### publish -/

@[simp] theorem publish_status (r : Reg) (v : Word) : (publish r v s).status = s.status := rfl
@[simp] theorem publish_params (r : Reg) (v : Word) : (publish r v s).params = s.params := rfl
@[simp] theorem publish_config (r : Reg) (v : Word) : (publish r v s).config = s.config := rfl
@[simp] theorem publish_imem (r : Reg) (v : Word) : (publish r v s).imem = s.imem := rfl
@[simp] theorem publish_regs (r : Reg) (v : Word) : (publish r v s).regs = s.regs := rfl
@[simp] theorem publish_valid (r : Reg) (v : Word) : (publish r v s).valid = s.valid := rfl
@[simp] theorem publish_fwd (r : Reg) (v : Word) : (publish r v s).fwd = s.fwd.set r v := rfl
@[simp] theorem publish_z (r : Reg) (v : Word) : (publish r v s).z = s.z := rfl
@[simp] theorem publish_dmem (r : Reg) (v : Word) : (publish r v s).dmem = s.dmem := rfl
@[simp] theorem publish_pc (r : Reg) (v : Word) : (publish r v s).pc = s.pc := rfl
@[simp] theorem publish_cyc (r : Reg) (v : Word) : (publish r v s).cyc = s.cyc := rfl
@[simp] theorem publish_done (r : Reg) (v : Word) : (publish r v s).done = s.done := rfl
@[simp] theorem publish_latchF (r : Reg) (v : Word) : (publish r v s).latchF = s.latchF := rfl
@[simp] theorem publish_latchD (r : Reg) (v : Word) : (publish r v s).latchD = s.latchD := rfl
@[simp] theorem publish_latchX (r : Reg) (v : Word) : (publish r v s).latchX = s.latchX := rfl
@[simp] theorem publish_latchM (r : Reg) (v : Word) : (publish r v s).latchM = s.latchM := rfl
@[simp] theorem publish_latchW (r : Reg) (v : Word) : (publish r v s).latchW = s.latchW := rfl
@[simp] theorem publish_turn (r : Reg) (v : Word) : (publish r v s).turn = s.turn := rfl

/-! ### commit -/

@[simp] theorem commit_status (r : Reg) (v : Word) : (commit r v s).status = s.status := rfl
@[simp] theorem commit_params (r : Reg) (v : Word) : (commit r v s).params = s.params := rfl
@[simp] theorem commit_config (r : Reg) (v : Word) : (commit r v s).config = s.config := rfl
@[simp] theorem commit_imem (r : Reg) (v : Word) : (commit r v s).imem = s.imem := rfl
@[simp] theorem commit_regs (r : Reg) (v : Word) : (commit r v s).regs = s.regs.set r v := rfl
@[simp] theorem commit_valid (r : Reg) (v : Word) : (commit r v s).valid = s.valid.set r true := rfl
@[simp] theorem commit_fwd (r : Reg) (v : Word) : (commit r v s).fwd = s.fwd.set r v := rfl
@[simp] theorem commit_z (r : Reg) (v : Word) : (commit r v s).z = s.z := rfl
@[simp] theorem commit_dmem (r : Reg) (v : Word) : (commit r v s).dmem = s.dmem := rfl
@[simp] theorem commit_pc (r : Reg) (v : Word) : (commit r v s).pc = s.pc := rfl
@[simp] theorem commit_cyc (r : Reg) (v : Word) : (commit r v s).cyc = s.cyc := rfl
@[simp] theorem commit_done (r : Reg) (v : Word) : (commit r v s).done = s.done := rfl
@[simp] theorem commit_latchF (r : Reg) (v : Word) : (commit r v s).latchF = s.latchF := rfl
@[simp] theorem commit_latchD (r : Reg) (v : Word) : (commit r v s).latchD = s.latchD := rfl
@[simp] theorem commit_latchX (r : Reg) (v : Word) : (commit r v s).latchX = s.latchX := rfl
@[simp] theorem commit_latchM (r : Reg) (v : Word) : (commit r v s).latchM = s.latchM := rfl
@[simp] theorem commit_latchW (r : Reg) (v : Word) : (commit r v s).latchW = s.latchW := rfl
@[simp] theorem commit_turn (r : Reg) (v : Word) : (commit r v s).turn = s.turn := rfl

/-! ### flushYounger -/

@[simp] theorem flushYounger_status : (flushYounger s).status = s.status := rfl
@[simp] theorem flushYounger_params : (flushYounger s).params = s.params := rfl
@[simp] theorem flushYounger_config : (flushYounger s).config = s.config := rfl
@[simp] theorem flushYounger_imem : (flushYounger s).imem = s.imem := rfl
@[simp] theorem flushYounger_regs : (flushYounger s).regs = s.regs := rfl
@[simp] theorem flushYounger_valid : (flushYounger s).valid = s.valid := rfl
@[simp] theorem flushYounger_fwd : (flushYounger s).fwd = s.fwd := rfl
@[simp] theorem flushYounger_z : (flushYounger s).z = s.z := rfl
@[simp] theorem flushYounger_dmem : (flushYounger s).dmem = s.dmem := rfl
@[simp] theorem flushYounger_pc : (flushYounger s).pc = s.pc := rfl
@[simp] theorem flushYounger_cyc : (flushYounger s).cyc = s.cyc := rfl
@[simp] theorem flushYounger_done : (flushYounger s).done = s.done := rfl
@[simp] theorem flushYounger_latchF : (flushYounger s).latchF = Latch.bubble := rfl
@[simp] theorem flushYounger_latchD : (flushYounger s).latchD = Latch.bubble := rfl
@[simp] theorem flushYounger_latchX : (flushYounger s).latchX = Latch.bubble := rfl
@[simp] theorem flushYounger_latchM : (flushYounger s).latchM = s.latchM := rfl
@[simp] theorem flushYounger_latchW : (flushYounger s).latchW = s.latchW := rfl
@[simp] theorem flushYounger_turn : (flushYounger s).turn = s.turn := rfl

/-! ### freezeFetchDecode -/

@[simp] theorem freezeFetchDecode_status : (freezeFetchDecode s).status = s.status := rfl
@[simp] theorem freezeFetchDecode_params : (freezeFetchDecode s).params = s.params := rfl
@[simp] theorem freezeFetchDecode_config : (freezeFetchDecode s).config = s.config := rfl
@[simp] theorem freezeFetchDecode_imem : (freezeFetchDecode s).imem = s.imem := rfl
@[simp] theorem freezeFetchDecode_regs : (freezeFetchDecode s).regs = s.regs := rfl
@[simp] theorem freezeFetchDecode_valid : (freezeFetchDecode s).valid = s.valid := rfl
@[simp] theorem freezeFetchDecode_fwd : (freezeFetchDecode s).fwd = s.fwd := rfl
@[simp] theorem freezeFetchDecode_z : (freezeFetchDecode s).z = s.z := rfl
@[simp] theorem freezeFetchDecode_dmem : (freezeFetchDecode s).dmem = s.dmem := rfl
@[simp] theorem freezeFetchDecode_pc : (freezeFetchDecode s).pc = s.pc := rfl
@[simp] theorem freezeFetchDecode_cyc : (freezeFetchDecode s).cyc = s.cyc := rfl
@[simp] theorem freezeFetchDecode_done : (freezeFetchDecode s).done = s.done := rfl
@[simp] theorem freezeFetchDecode_latchF : (freezeFetchDecode s).latchF = frozenBubble := rfl
@[simp] theorem freezeFetchDecode_latchD : (freezeFetchDecode s).latchD = frozenBubble := rfl
@[simp] theorem freezeFetchDecode_latchX : (freezeFetchDecode s).latchX = s.latchX := rfl
@[simp] theorem freezeFetchDecode_latchM : (freezeFetchDecode s).latchM = s.latchM := rfl
@[simp] theorem freezeFetchDecode_latchW : (freezeFetchDecode s).latchW = s.latchW := rfl
@[simp] theorem freezeFetchDecode_turn : (freezeFetchDecode s).turn = s.turn := rfl

/-! ### freezeExecute -/

@[simp] theorem freezeExecute_status : (freezeExecute s).status = s.status := rfl
@[simp] theorem freezeExecute_params : (freezeExecute s).params = s.params := rfl
@[simp] theorem freezeExecute_config : (freezeExecute s).config = s.config := rfl
@[simp] theorem freezeExecute_imem : (freezeExecute s).imem = s.imem := rfl
@[simp] theorem freezeExecute_regs : (freezeExecute s).regs = s.regs := rfl
@[simp] theorem freezeExecute_valid : (freezeExecute s).valid = s.valid := rfl
@[simp] theorem freezeExecute_fwd : (freezeExecute s).fwd = s.fwd := rfl
@[simp] theorem freezeExecute_z : (freezeExecute s).z = s.z := rfl
@[simp] theorem freezeExecute_dmem : (freezeExecute s).dmem = s.dmem := rfl
@[simp] theorem freezeExecute_pc : (freezeExecute s).pc = s.pc := rfl
@[simp] theorem freezeExecute_cyc : (freezeExecute s).cyc = s.cyc := rfl
@[simp] theorem freezeExecute_done : (freezeExecute s).done = s.done := rfl
@[simp] theorem freezeExecute_latchF : (freezeExecute s).latchF = s.latchF := rfl
@[simp] theorem freezeExecute_latchD : (freezeExecute s).latchD = s.latchD := rfl
@[simp] theorem freezeExecute_latchX : (freezeExecute s).latchX = frozenBubble := rfl
@[simp] theorem freezeExecute_latchM : (freezeExecute s).latchM = s.latchM := rfl
@[simp] theorem freezeExecute_latchW : (freezeExecute s).latchW = s.latchW := rfl
@[simp] theorem freezeExecute_turn : (freezeExecute s).turn = s.turn := rfl

/-! ### freezeMemory -/

@[simp] theorem freezeMemory_status : (freezeMemory s).status = s.status := rfl
@[simp] theorem freezeMemory_params : (freezeMemory s).params = s.params := rfl
@[simp] theorem freezeMemory_config : (freezeMemory s).config = s.config := rfl
@[simp] theorem freezeMemory_imem : (freezeMemory s).imem = s.imem := rfl
@[simp] theorem freezeMemory_regs : (freezeMemory s).regs = s.regs := rfl
@[simp] theorem freezeMemory_valid : (freezeMemory s).valid = s.valid := rfl
@[simp] theorem freezeMemory_fwd : (freezeMemory s).fwd = s.fwd := rfl
@[simp] theorem freezeMemory_z : (freezeMemory s).z = s.z := rfl
@[simp] theorem freezeMemory_dmem : (freezeMemory s).dmem = s.dmem := rfl
@[simp] theorem freezeMemory_pc : (freezeMemory s).pc = s.pc := rfl
@[simp] theorem freezeMemory_cyc : (freezeMemory s).cyc = s.cyc := rfl
@[simp] theorem freezeMemory_done : (freezeMemory s).done = s.done := rfl
@[simp] theorem freezeMemory_latchF : (freezeMemory s).latchF = s.latchF := rfl
@[simp] theorem freezeMemory_latchD : (freezeMemory s).latchD = s.latchD := rfl
@[simp] theorem freezeMemory_latchX : (freezeMemory s).latchX = s.latchX := rfl
@[simp] theorem freezeMemory_latchM : (freezeMemory s).latchM = frozenBubble := rfl
@[simp] theorem freezeMemory_latchW : (freezeMemory s).latchW = s.latchW := rfl
@[simp] theorem freezeMemory_turn : (freezeMemory s).turn = s.turn := rfl

/-! ### advanceExecute -/

@[simp] theorem advanceExecute_status : (advanceExecute s).status = s.status := rfl
@[simp] theorem advanceExecute_params : (advanceExecute s).params = s.params := rfl
@[simp] theorem advanceExecute_config : (advanceExecute s).config = s.config := rfl
@[simp] theorem advanceExecute_imem : (advanceExecute s).imem = s.imem := rfl
@[simp] theorem advanceExecute_regs : (advanceExecute s).regs = s.regs := rfl
@[simp] theorem advanceExecute_valid : (advanceExecute s).valid = s.valid := rfl
@[simp] theorem advanceExecute_fwd : (advanceExecute s).fwd = s.fwd := rfl
@[simp] theorem advanceExecute_z : (advanceExecute s).z = s.z := rfl
@[simp] theorem advanceExecute_dmem : (advanceExecute s).dmem = s.dmem := rfl
@[simp] theorem advanceExecute_pc : (advanceExecute s).pc = s.pc := rfl
@[simp] theorem advanceExecute_cyc : (advanceExecute s).cyc = s.cyc := rfl
@[simp] theorem advanceExecute_done : (advanceExecute s).done = s.done := rfl
@[simp] theorem advanceExecute_latchF : (advanceExecute s).latchF = s.latchF := rfl
@[simp] theorem advanceExecute_latchD : (advanceExecute s).latchD = s.latchD := rfl
@[simp] theorem advanceExecute_latchX : (advanceExecute s).latchX = s.latchX := rfl
@[simp] theorem advanceExecute_latchM : (advanceExecute s).latchM = s.latchX := rfl
@[simp] theorem advanceExecute_latchW : (advanceExecute s).latchW = s.latchW := rfl
@[simp] theorem advanceExecute_turn : (advanceExecute s).turn = s.turn := rfl

/-! ### holdExecute -/

@[simp] theorem holdExecute_status : (holdExecute s).status = s.status := rfl
@[simp] theorem holdExecute_params : (holdExecute s).params = s.params := rfl
@[simp] theorem holdExecute_config : (holdExecute s).config = s.config := rfl
@[simp] theorem holdExecute_imem : (holdExecute s).imem = s.imem := rfl
@[simp] theorem holdExecute_regs : (holdExecute s).regs = s.regs := rfl
@[simp] theorem holdExecute_valid : (holdExecute s).valid = s.valid := rfl
@[simp] theorem holdExecute_fwd : (holdExecute s).fwd = s.fwd := rfl
@[simp] theorem holdExecute_z : (holdExecute s).z = s.z := rfl
@[simp] theorem holdExecute_dmem : (holdExecute s).dmem = s.dmem := rfl
@[simp] theorem holdExecute_pc : (holdExecute s).pc = s.pc := rfl
@[simp] theorem holdExecute_cyc : (holdExecute s).cyc = s.cyc := rfl
@[simp] theorem holdExecute_done : (holdExecute s).done = s.done := rfl
@[simp] theorem holdExecute_latchF : (holdExecute s).latchF = s.latchF := rfl
@[simp] theorem holdExecute_latchD : (holdExecute s).latchD = s.latchD := rfl
@[simp] theorem holdExecute_latchX : (holdExecute s).latchX = s.latchX := rfl
@[simp] theorem holdExecute_latchM : (holdExecute s).latchM = Latch.bubble := rfl
@[simp] theorem holdExecute_latchW : (holdExecute s).latchW = s.latchW := rfl
@[simp] theorem holdExecute_turn : (holdExecute s).turn = s.turn := rfl

/-! ### advanceMemory -/

@[simp] theorem advanceMemory_status : (advanceMemory s).status = s.status := rfl
@[simp] theorem advanceMemory_params : (advanceMemory s).params = s.params := rfl
@[simp] theorem advanceMemory_config : (advanceMemory s).config = s.config := rfl
@[simp] theorem advanceMemory_imem : (advanceMemory s).imem = s.imem := rfl
@[simp] theorem advanceMemory_regs : (advanceMemory s).regs = s.regs := rfl
@[simp] theorem advanceMemory_valid : (advanceMemory s).valid = s.valid := rfl
@[simp] theorem advanceMemory_fwd : (advanceMemory s).fwd = s.fwd := rfl
@[simp] theorem advanceMemory_z : (advanceMemory s).z = s.z := rfl
@[simp] theorem advanceMemory_dmem : (advanceMemory s).dmem = s.dmem := rfl
@[simp] theorem advanceMemory_pc : (advanceMemory s).pc = s.pc := rfl
@[simp] theorem advanceMemory_cyc : (advanceMemory s).cyc = s.cyc := rfl
@[simp] theorem advanceMemory_done : (advanceMemory s).done = s.done := rfl
@[simp] theorem advanceMemory_latchF : (advanceMemory s).latchF = s.latchF := rfl
@[simp] theorem advanceMemory_latchD : (advanceMemory s).latchD = s.latchD := rfl
@[simp] theorem advanceMemory_latchX : (advanceMemory s).latchX = s.latchX := rfl
@[simp] theorem advanceMemory_latchM : (advanceMemory s).latchM = s.latchM := rfl
@[simp] theorem advanceMemory_latchW : (advanceMemory s).latchW = s.latchM := rfl
@[simp] theorem advanceMemory_turn : (advanceMemory s).turn = s.turn := rfl

/-! ### stallDecode -/

@[simp] theorem stallDecode_status : (stallDecode s).status = s.status := rfl
@[simp] theorem stallDecode_params : (stallDecode s).params = s.params := rfl
@[simp] theorem stallDecode_config : (stallDecode s).config = s.config := rfl
@[simp] theorem stallDecode_imem : (stallDecode s).imem = s.imem := rfl
@[simp] theorem stallDecode_regs : (stallDecode s).regs = s.regs := rfl
@[simp] theorem stallDecode_valid : (stallDecode s).valid = s.valid := rfl
@[simp] theorem stallDecode_fwd : (stallDecode s).fwd = s.fwd := rfl
@[simp] theorem stallDecode_z : (stallDecode s).z = s.z := rfl
@[simp] theorem stallDecode_dmem : (stallDecode s).dmem = s.dmem := rfl
@[simp] theorem stallDecode_pc : (stallDecode s).pc = s.pc := rfl
@[simp] theorem stallDecode_cyc : (stallDecode s).cyc = s.cyc := rfl
@[simp] theorem stallDecode_done : (stallDecode s).done = s.done := rfl
@[simp] theorem stallDecode_latchF : (stallDecode s).latchF = s.latchF := rfl
@[simp] theorem stallDecode_latchD : (stallDecode s).latchD = { s.latchD with stalled := true } := rfl
@[simp] theorem stallDecode_latchX : (stallDecode s).latchX = Latch.bubble := rfl
@[simp] theorem stallDecode_latchM : (stallDecode s).latchM = s.latchM := rfl
@[simp] theorem stallDecode_latchW : (stallDecode s).latchW = s.latchW := rfl
@[simp] theorem stallDecode_turn : (stallDecode s).turn = s.turn := rfl

/-! ### reserve -/

@[simp] theorem reserve_status (d : Option Reg) : (reserve d s).status = s.status := by cases d <;> rfl
@[simp] theorem reserve_params (d : Option Reg) : (reserve d s).params = s.params := by cases d <;> rfl
@[simp] theorem reserve_config (d : Option Reg) : (reserve d s).config = s.config := by cases d <;> rfl
@[simp] theorem reserve_imem (d : Option Reg) : (reserve d s).imem = s.imem := by cases d <;> rfl
@[simp] theorem reserve_regs (d : Option Reg) : (reserve d s).regs = s.regs := by cases d <;> rfl
@[simp] theorem reserve_fwd (d : Option Reg) : (reserve d s).fwd = s.fwd := by cases d <;> rfl
@[simp] theorem reserve_z (d : Option Reg) : (reserve d s).z = s.z := by cases d <;> rfl
@[simp] theorem reserve_dmem (d : Option Reg) : (reserve d s).dmem = s.dmem := by cases d <;> rfl
@[simp] theorem reserve_pc (d : Option Reg) : (reserve d s).pc = s.pc := by cases d <;> rfl
@[simp] theorem reserve_cyc (d : Option Reg) : (reserve d s).cyc = s.cyc := by cases d <;> rfl
@[simp] theorem reserve_done (d : Option Reg) : (reserve d s).done = s.done := by cases d <;> rfl
@[simp] theorem reserve_latchF (d : Option Reg) : (reserve d s).latchF = s.latchF := by cases d <;> rfl
@[simp] theorem reserve_latchD (d : Option Reg) : (reserve d s).latchD = s.latchD := by cases d <;> rfl
@[simp] theorem reserve_latchX (d : Option Reg) : (reserve d s).latchX = s.latchX := by cases d <;> rfl
@[simp] theorem reserve_latchM (d : Option Reg) : (reserve d s).latchM = s.latchM := by cases d <;> rfl
@[simp] theorem reserve_latchW (d : Option Reg) : (reserve d s).latchW = s.latchW := by cases d <;> rfl
@[simp] theorem reserve_turn (d : Option Reg) : (reserve d s).turn = s.turn := by cases d <;> rfl

/-! ### release -/

@[simp] theorem release_status (l : Latch) : (release l s).status = s.status := by unfold release; split <;> rfl
@[simp] theorem release_params (l : Latch) : (release l s).params = s.params := by unfold release; split <;> rfl
@[simp] theorem release_config (l : Latch) : (release l s).config = s.config := by unfold release; split <;> rfl
@[simp] theorem release_imem (l : Latch) : (release l s).imem = s.imem := by unfold release; split <;> rfl
@[simp] theorem release_regs (l : Latch) : (release l s).regs = s.regs := by unfold release; split <;> rfl
@[simp] theorem release_fwd (l : Latch) : (release l s).fwd = s.fwd := by unfold release; split <;> rfl
@[simp] theorem release_z (l : Latch) : (release l s).z = s.z := by unfold release; split <;> rfl
@[simp] theorem release_dmem (l : Latch) : (release l s).dmem = s.dmem := by unfold release; split <;> rfl
@[simp] theorem release_pc (l : Latch) : (release l s).pc = s.pc := by unfold release; split <;> rfl
@[simp] theorem release_cyc (l : Latch) : (release l s).cyc = s.cyc := by unfold release; split <;> rfl
@[simp] theorem release_done (l : Latch) : (release l s).done = s.done := by unfold release; split <;> rfl
@[simp] theorem release_latchF (l : Latch) : (release l s).latchF = s.latchF := by unfold release; split <;> rfl
@[simp] theorem release_latchD (l : Latch) : (release l s).latchD = s.latchD := by unfold release; split <;> rfl
@[simp] theorem release_latchX (l : Latch) : (release l s).latchX = s.latchX := by unfold release; split <;> rfl
@[simp] theorem release_latchM (l : Latch) : (release l s).latchM = s.latchM := by unfold release; split <;> rfl
@[simp] theorem release_latchW (l : Latch) : (release l s).latchW = s.latchW := by unfold release; split <;> rfl
@[simp] theorem release_turn (l : Latch) : (release l s).turn = s.turn := by unfold release; split <;> rfl

/-! ### countDone -/

@[simp] theorem countDone_status (i : Instr) : (countDone i s).status = s.status := by unfold countDone; split <;> rfl
@[simp] theorem countDone_params (i : Instr) : (countDone i s).params = s.params := by unfold countDone; split <;> rfl
@[simp] theorem countDone_config (i : Instr) : (countDone i s).config = s.config := by unfold countDone; split <;> rfl
@[simp] theorem countDone_imem (i : Instr) : (countDone i s).imem = s.imem := by unfold countDone; split <;> rfl
@[simp] theorem countDone_regs (i : Instr) : (countDone i s).regs = s.regs := by unfold countDone; split <;> rfl
@[simp] theorem countDone_valid (i : Instr) : (countDone i s).valid = s.valid := by unfold countDone; split <;> rfl
@[simp] theorem countDone_fwd (i : Instr) : (countDone i s).fwd = s.fwd := by unfold countDone; split <;> rfl
@[simp] theorem countDone_z (i : Instr) : (countDone i s).z = s.z := by unfold countDone; split <;> rfl
@[simp] theorem countDone_dmem (i : Instr) : (countDone i s).dmem = s.dmem := by unfold countDone; split <;> rfl
@[simp] theorem countDone_pc (i : Instr) : (countDone i s).pc = s.pc := by unfold countDone; split <;> rfl
@[simp] theorem countDone_cyc (i : Instr) : (countDone i s).cyc = s.cyc := by unfold countDone; split <;> rfl
@[simp] theorem countDone_done (i : Instr) : (countDone i s).done = if i.op = .nop then s.done else s.done + 1 := by unfold countDone; split <;> rfl
@[simp] theorem countDone_latchF (i : Instr) : (countDone i s).latchF = s.latchF := by unfold countDone; split <;> rfl
@[simp] theorem countDone_latchD (i : Instr) : (countDone i s).latchD = s.latchD := by unfold countDone; split <;> rfl
@[simp] theorem countDone_latchX (i : Instr) : (countDone i s).latchX = s.latchX := by unfold countDone; split <;> rfl
@[simp] theorem countDone_latchM (i : Instr) : (countDone i s).latchM = s.latchM := by unfold countDone; split <;> rfl
@[simp] theorem countDone_latchW (i : Instr) : (countDone i s).latchW = s.latchW := by unfold countDone; split <;> rfl
@[simp] theorem countDone_turn (i : Instr) : (countDone i s).turn = s.turn := by unfold countDone; split <;> rfl

/-! ### forwardDecode -/

@[simp] theorem forwardDecode_status (a b : Word) (d : Option Reg) : (forwardDecode a b d s).status = s.status := by simp [forwardDecode]
@[simp] theorem forwardDecode_params (a b : Word) (d : Option Reg) : (forwardDecode a b d s).params = s.params := by simp [forwardDecode]
@[simp] theorem forwardDecode_config (a b : Word) (d : Option Reg) : (forwardDecode a b d s).config = s.config := by simp [forwardDecode]
@[simp] theorem forwardDecode_imem (a b : Word) (d : Option Reg) : (forwardDecode a b d s).imem = s.imem := by simp [forwardDecode]
@[simp] theorem forwardDecode_regs (a b : Word) (d : Option Reg) : (forwardDecode a b d s).regs = s.regs := by simp [forwardDecode]
@[simp] theorem forwardDecode_valid (a b : Word) (d : Option Reg) : (forwardDecode a b d s).valid = (reserve d s).valid := by simp [forwardDecode]
@[simp] theorem forwardDecode_fwd (a b : Word) (d : Option Reg) : (forwardDecode a b d s).fwd = s.fwd := by simp [forwardDecode]
@[simp] theorem forwardDecode_z (a b : Word) (d : Option Reg) : (forwardDecode a b d s).z = s.z := by simp [forwardDecode]
@[simp] theorem forwardDecode_dmem (a b : Word) (d : Option Reg) : (forwardDecode a b d s).dmem = s.dmem := by simp [forwardDecode]
@[simp] theorem forwardDecode_pc (a b : Word) (d : Option Reg) : (forwardDecode a b d s).pc = s.pc := by simp [forwardDecode]
@[simp] theorem forwardDecode_cyc (a b : Word) (d : Option Reg) : (forwardDecode a b d s).cyc = s.cyc := by simp [forwardDecode]
@[simp] theorem forwardDecode_done (a b : Word) (d : Option Reg) : (forwardDecode a b d s).done = s.done := by simp [forwardDecode]
@[simp] theorem forwardDecode_latchF (a b : Word) (d : Option Reg) : (forwardDecode a b d s).latchF = s.latchF := by simp [forwardDecode]
@[simp] theorem forwardDecode_latchD (a b : Word) (d : Option Reg) : (forwardDecode a b d s).latchD = { s.latchD with rs1Value := a, rs2Value := b, stalled := false } := by simp [forwardDecode]
@[simp] theorem forwardDecode_latchX (a b : Word) (d : Option Reg) : (forwardDecode a b d s).latchX = { s.latchD with rs1Value := a, rs2Value := b, stalled := false } := by simp [forwardDecode]
@[simp] theorem forwardDecode_latchM (a b : Word) (d : Option Reg) : (forwardDecode a b d s).latchM = s.latchM := by simp [forwardDecode]
@[simp] theorem forwardDecode_latchW (a b : Word) (d : Option Reg) : (forwardDecode a b d s).latchW = s.latchW := by simp [forwardDecode]
@[simp] theorem forwardDecode_turn (a b : Word) (d : Option Reg) : (forwardDecode a b d s).turn = s.turn := by simp [forwardDecode]

/-! ### releaseFetch -/

@[simp] theorem releaseFetch_status : (releaseFetch s).status = s.status := by unfold releaseFetch; split <;> rfl
@[simp] theorem releaseFetch_params : (releaseFetch s).params = s.params := by unfold releaseFetch; split <;> rfl
@[simp] theorem releaseFetch_config : (releaseFetch s).config = s.config := by unfold releaseFetch; split <;> rfl
@[simp] theorem releaseFetch_imem : (releaseFetch s).imem = s.imem := by unfold releaseFetch; split <;> rfl
@[simp] theorem releaseFetch_regs : (releaseFetch s).regs = s.regs := by unfold releaseFetch; split <;> rfl
@[simp] theorem releaseFetch_valid : (releaseFetch s).valid = s.valid := by unfold releaseFetch; split <;> rfl
@[simp] theorem releaseFetch_fwd : (releaseFetch s).fwd = s.fwd := by unfold releaseFetch; split <;> rfl
@[simp] theorem releaseFetch_z : (releaseFetch s).z = s.z := by unfold releaseFetch; split <;> rfl
@[simp] theorem releaseFetch_dmem : (releaseFetch s).dmem = s.dmem := by unfold releaseFetch; split <;> rfl
@[simp] theorem releaseFetch_pc : (releaseFetch s).pc = s.pc := by unfold releaseFetch; split <;> rfl
@[simp] theorem releaseFetch_cyc : (releaseFetch s).cyc = s.cyc := by unfold releaseFetch; split <;> rfl
@[simp] theorem releaseFetch_done : (releaseFetch s).done = s.done := by unfold releaseFetch; split <;> rfl
@[simp] theorem releaseFetch_latchX : (releaseFetch s).latchX = s.latchX := by unfold releaseFetch; split <;> rfl
@[simp] theorem releaseFetch_latchM : (releaseFetch s).latchM = s.latchM := by unfold releaseFetch; split <;> rfl
@[simp] theorem releaseFetch_latchW : (releaseFetch s).latchW = s.latchW := by unfold releaseFetch; split <;> rfl
@[simp] theorem releaseFetch_turn : (releaseFetch s).turn = s.turn := by unfold releaseFetch; split <;> rfl

/-! ### decodeNop -/

@[simp] theorem decodeNop_status : (decodeNop s).status = s.status := by unfold decodeNop; split <;> rfl
@[simp] theorem decodeNop_params : (decodeNop s).params = s.params := by unfold decodeNop; split <;> rfl
@[simp] theorem decodeNop_config : (decodeNop s).config = s.config := by unfold decodeNop; split <;> rfl
@[simp] theorem decodeNop_imem : (decodeNop s).imem = s.imem := by unfold decodeNop; split <;> rfl
@[simp] theorem decodeNop_regs : (decodeNop s).regs = s.regs := by unfold decodeNop; split <;> rfl
@[simp] theorem decodeNop_valid : (decodeNop s).valid = s.valid := by unfold decodeNop; split <;> rfl
@[simp] theorem decodeNop_fwd : (decodeNop s).fwd = s.fwd := by unfold decodeNop; split <;> rfl
@[simp] theorem decodeNop_z : (decodeNop s).z = s.z := by unfold decodeNop; split <;> rfl
@[simp] theorem decodeNop_dmem : (decodeNop s).dmem = s.dmem := by unfold decodeNop; split <;> rfl
@[simp] theorem decodeNop_pc : (decodeNop s).pc = s.pc := by unfold decodeNop; split <;> rfl
@[simp] theorem decodeNop_cyc : (decodeNop s).cyc = s.cyc := by unfold decodeNop; split <;> rfl
@[simp] theorem decodeNop_done : (decodeNop s).done = s.done := by unfold decodeNop; split <;> rfl
@[simp] theorem decodeNop_latchF : (decodeNop s).latchF = s.latchF := by unfold decodeNop; split <;> rfl
@[simp] theorem decodeNop_latchD : (decodeNop s).latchD = s.latchD := by unfold decodeNop; split <;> rfl
@[simp] theorem decodeNop_latchX : (decodeNop s).latchX = if s.latchX.stalled then s.latchX else s.latchD := by unfold decodeNop; split <;> rfl
@[simp] theorem decodeNop_latchM : (decodeNop s).latchM = s.latchM := by unfold decodeNop; split <;> rfl
@[simp] theorem decodeNop_latchW : (decodeNop s).latchW = s.latchW := by unfold decodeNop; split <;> rfl
@[simp] theorem decodeNop_turn : (decodeNop s).turn = s.turn := by unfold decodeNop; split <;> rfl

/-! ### fetchTurn -/

@[simp] theorem fetchTurn_status (i : Instr) : (fetchTurn i s).status = s.status := by unfold fetchTurn; dsimp only; split <;> rfl
@[simp] theorem fetchTurn_params (i : Instr) : (fetchTurn i s).params = s.params := by unfold fetchTurn; dsimp only; split <;> rfl
@[simp] theorem fetchTurn_config (i : Instr) : (fetchTurn i s).config = s.config := by unfold fetchTurn; dsimp only; split <;> rfl
@[simp] theorem fetchTurn_imem (i : Instr) : (fetchTurn i s).imem = s.imem := by unfold fetchTurn; dsimp only; split <;> rfl
@[simp] theorem fetchTurn_regs (i : Instr) : (fetchTurn i s).regs = s.regs := by unfold fetchTurn; dsimp only; split <;> rfl
@[simp] theorem fetchTurn_valid (i : Instr) : (fetchTurn i s).valid = s.valid := by unfold fetchTurn; dsimp only; split <;> rfl
@[simp] theorem fetchTurn_fwd (i : Instr) : (fetchTurn i s).fwd = s.fwd := by unfold fetchTurn; dsimp only; split <;> rfl
@[simp] theorem fetchTurn_z (i : Instr) : (fetchTurn i s).z = s.z := by unfold fetchTurn; dsimp only; split <;> rfl
@[simp] theorem fetchTurn_dmem (i : Instr) : (fetchTurn i s).dmem = s.dmem := by unfold fetchTurn; dsimp only; split <;> rfl
@[simp] theorem fetchTurn_pc (i : Instr) : (fetchTurn i s).pc = wrap32 (s.pc.toInt + s.params.insnWidth) := by unfold fetchTurn; dsimp only; split <;> rfl
@[simp] theorem fetchTurn_cyc (i : Instr) : (fetchTurn i s).cyc = s.cyc := by unfold fetchTurn; dsimp only; split <;> rfl
@[simp] theorem fetchTurn_done (i : Instr) : (fetchTurn i s).done = s.done := by unfold fetchTurn; dsimp only; split <;> rfl
@[simp] theorem fetchTurn_latchX (i : Instr) : (fetchTurn i s).latchX = s.latchX := by unfold fetchTurn; dsimp only; split <;> rfl
@[simp] theorem fetchTurn_latchM (i : Instr) : (fetchTurn i s).latchM = s.latchM := by unfold fetchTurn; dsimp only; split <;> rfl
@[simp] theorem fetchTurn_latchW (i : Instr) : (fetchTurn i s).latchW = s.latchW := by unfold fetchTurn; dsimp only; split <;> rfl
@[simp] theorem fetchTurn_turn (i : Instr) : (fetchTurn i s).turn = s.turn := by unfold fetchTurn; dsimp only; split <;> rfl

/-! ### decodeTurn -/

/-- The Decode turn holds, stalls, or forwards (R120). -/
theorem decodeTurn_cases (q : Sources) (d : Option Reg) (h : Bool) :
    (s.latchX.stalled = true ∧ decodeTurn q d h s = { s with latchD := { s.latchD with stalled := true } }) ∨
      (s.latchX.stalled = false ∧ decodeTurn q d h s = stallDecode s) ∨
      (s.latchX.stalled = false ∧ ∃ a b, resolveField s q.rs1 s.latchD.rs1Value = .ready a ∧
        resolveField s q.rs2 s.latchD.rs2Value = .ready b ∧ (h || destHazard s d) = false ∧
        decodeTurn q d h s = forwardDecode a b d s) := by
  unfold decodeTurn
  by_cases hx : s.latchX.stalled = true
  · exact .inl ⟨hx, if_pos hx⟩
  · have hx' : s.latchX.stalled = false := by simpa using hx
    right
    rw [if_neg hx]
    split
    · next a b ha hb =>
      split
      · exact .inl ⟨hx', rfl⟩
      · next hn => exact .inr ⟨hx', a, b, ha, hb, Bool.eq_false_iff.2 hn, rfl⟩
    · exact .inl ⟨hx', rfl⟩
    · exact .inl ⟨hx', rfl⟩

@[simp] theorem decodeTurn_status (q : Sources) (d : Option Reg) (h : Bool) : (decodeTurn q d h s).status = s.status := by
  rcases decodeTurn_cases s q d h with ⟨-, e⟩ | ⟨-, e⟩ | ⟨-, _, _, -, -, -, e⟩ <;> simp [e]
@[simp] theorem decodeTurn_params (q : Sources) (d : Option Reg) (h : Bool) : (decodeTurn q d h s).params = s.params := by
  rcases decodeTurn_cases s q d h with ⟨-, e⟩ | ⟨-, e⟩ | ⟨-, _, _, -, -, -, e⟩ <;> simp [e]
@[simp] theorem decodeTurn_config (q : Sources) (d : Option Reg) (h : Bool) : (decodeTurn q d h s).config = s.config := by
  rcases decodeTurn_cases s q d h with ⟨-, e⟩ | ⟨-, e⟩ | ⟨-, _, _, -, -, -, e⟩ <;> simp [e]
@[simp] theorem decodeTurn_imem (q : Sources) (d : Option Reg) (h : Bool) : (decodeTurn q d h s).imem = s.imem := by
  rcases decodeTurn_cases s q d h with ⟨-, e⟩ | ⟨-, e⟩ | ⟨-, _, _, -, -, -, e⟩ <;> simp [e]
@[simp] theorem decodeTurn_regs (q : Sources) (d : Option Reg) (h : Bool) : (decodeTurn q d h s).regs = s.regs := by
  rcases decodeTurn_cases s q d h with ⟨-, e⟩ | ⟨-, e⟩ | ⟨-, _, _, -, -, -, e⟩ <;> simp [e]
@[simp] theorem decodeTurn_fwd (q : Sources) (d : Option Reg) (h : Bool) : (decodeTurn q d h s).fwd = s.fwd := by
  rcases decodeTurn_cases s q d h with ⟨-, e⟩ | ⟨-, e⟩ | ⟨-, _, _, -, -, -, e⟩ <;> simp [e]
@[simp] theorem decodeTurn_z (q : Sources) (d : Option Reg) (h : Bool) : (decodeTurn q d h s).z = s.z := by
  rcases decodeTurn_cases s q d h with ⟨-, e⟩ | ⟨-, e⟩ | ⟨-, _, _, -, -, -, e⟩ <;> simp [e]
@[simp] theorem decodeTurn_dmem (q : Sources) (d : Option Reg) (h : Bool) : (decodeTurn q d h s).dmem = s.dmem := by
  rcases decodeTurn_cases s q d h with ⟨-, e⟩ | ⟨-, e⟩ | ⟨-, _, _, -, -, -, e⟩ <;> simp [e]
@[simp] theorem decodeTurn_pc (q : Sources) (d : Option Reg) (h : Bool) : (decodeTurn q d h s).pc = s.pc := by
  rcases decodeTurn_cases s q d h with ⟨-, e⟩ | ⟨-, e⟩ | ⟨-, _, _, -, -, -, e⟩ <;> simp [e]
@[simp] theorem decodeTurn_cyc (q : Sources) (d : Option Reg) (h : Bool) : (decodeTurn q d h s).cyc = s.cyc := by
  rcases decodeTurn_cases s q d h with ⟨-, e⟩ | ⟨-, e⟩ | ⟨-, _, _, -, -, -, e⟩ <;> simp [e]
@[simp] theorem decodeTurn_done (q : Sources) (d : Option Reg) (h : Bool) : (decodeTurn q d h s).done = s.done := by
  rcases decodeTurn_cases s q d h with ⟨-, e⟩ | ⟨-, e⟩ | ⟨-, _, _, -, -, -, e⟩ <;> simp [e]
@[simp] theorem decodeTurn_latchF (q : Sources) (d : Option Reg) (h : Bool) : (decodeTurn q d h s).latchF = s.latchF := by
  rcases decodeTurn_cases s q d h with ⟨-, e⟩ | ⟨-, e⟩ | ⟨-, _, _, -, -, -, e⟩ <;> simp [e]
@[simp] theorem decodeTurn_latchM (q : Sources) (d : Option Reg) (h : Bool) : (decodeTurn q d h s).latchM = s.latchM := by
  rcases decodeTurn_cases s q d h with ⟨-, e⟩ | ⟨-, e⟩ | ⟨-, _, _, -, -, -, e⟩ <;> simp [e]
@[simp] theorem decodeTurn_latchW (q : Sources) (d : Option Reg) (h : Bool) : (decodeTurn q d h s).latchW = s.latchW := by
  rcases decodeTurn_cases s q d h with ⟨-, e⟩ | ⟨-, e⟩ | ⟨-, _, _, -, -, -, e⟩ <;> simp [e]
@[simp] theorem decodeTurn_turn (q : Sources) (d : Option Reg) (h : Bool) : (decodeTurn q d h s).turn = s.turn := by
  rcases decodeTurn_cases s q d h with ⟨-, e⟩ | ⟨-, e⟩ | ⟨-, _, _, -, -, -, e⟩ <;> simp [e]

/-! ### memoryBranch -/

@[simp] theorem memoryBranch_status (b : Bool) (imm : Word) : (memoryBranch b imm s).status = s.status := by cases b <;> simp [memoryBranch]
@[simp] theorem memoryBranch_params (b : Bool) (imm : Word) : (memoryBranch b imm s).params = s.params := by cases b <;> simp [memoryBranch]
@[simp] theorem memoryBranch_config (b : Bool) (imm : Word) : (memoryBranch b imm s).config = s.config := by cases b <;> simp [memoryBranch]
@[simp] theorem memoryBranch_imem (b : Bool) (imm : Word) : (memoryBranch b imm s).imem = s.imem := by cases b <;> simp [memoryBranch]
@[simp] theorem memoryBranch_regs (b : Bool) (imm : Word) : (memoryBranch b imm s).regs = s.regs := by cases b <;> simp [memoryBranch]
@[simp] theorem memoryBranch_fwd (b : Bool) (imm : Word) : (memoryBranch b imm s).fwd = s.fwd := by cases b <;> simp [memoryBranch]
@[simp] theorem memoryBranch_z (b : Bool) (imm : Word) : (memoryBranch b imm s).z = s.z := by cases b <;> simp [memoryBranch]
@[simp] theorem memoryBranch_dmem (b : Bool) (imm : Word) : (memoryBranch b imm s).dmem = s.dmem := by cases b <;> simp [memoryBranch]
@[simp] theorem memoryBranch_pc (b : Bool) (imm : Word) : (memoryBranch b imm s).pc = if b then addWrap s.latchM.pc imm else s.pc := by cases b <;> simp [memoryBranch]
@[simp] theorem memoryBranch_cyc (b : Bool) (imm : Word) : (memoryBranch b imm s).cyc = s.cyc := by cases b <;> simp [memoryBranch]
@[simp] theorem memoryBranch_done (b : Bool) (imm : Word) : (memoryBranch b imm s).done = s.done := by cases b <;> simp [memoryBranch]
@[simp] theorem memoryBranch_latchF (b : Bool) (imm : Word) : (memoryBranch b imm s).latchF = if b then Latch.bubble else s.latchF := by cases b <;> simp [memoryBranch]
@[simp] theorem memoryBranch_latchD (b : Bool) (imm : Word) : (memoryBranch b imm s).latchD = if b then Latch.bubble else s.latchD := by cases b <;> simp [memoryBranch]
@[simp] theorem memoryBranch_latchX (b : Bool) (imm : Word) : (memoryBranch b imm s).latchX = if b then Latch.bubble else s.latchX := by cases b <;> simp [memoryBranch]
@[simp] theorem memoryBranch_latchM (b : Bool) (imm : Word) : (memoryBranch b imm s).latchM = s.latchM := by cases b <;> simp [memoryBranch]
@[simp] theorem memoryBranch_latchW (b : Bool) (imm : Word) : (memoryBranch b imm s).latchW = s.latchM := by cases b <;> simp [memoryBranch]
@[simp] theorem memoryBranch_turn (b : Bool) (imm : Word) : (memoryBranch b imm s).turn = s.turn := by cases b <;> simp [memoryBranch]

/-! ### jumpMemory -/

@[simp] theorem jumpMemory_status : (jumpMemory s).status = s.status := by simp [jumpMemory]
@[simp] theorem jumpMemory_params : (jumpMemory s).params = s.params := by simp [jumpMemory]
@[simp] theorem jumpMemory_config : (jumpMemory s).config = s.config := by simp [jumpMemory]
@[simp] theorem jumpMemory_imem : (jumpMemory s).imem = s.imem := by simp [jumpMemory]
@[simp] theorem jumpMemory_regs : (jumpMemory s).regs = s.regs := by simp [jumpMemory]
@[simp] theorem jumpMemory_fwd : (jumpMemory s).fwd = s.fwd := by simp [jumpMemory]
@[simp] theorem jumpMemory_z : (jumpMemory s).z = s.z := by simp [jumpMemory]
@[simp] theorem jumpMemory_dmem : (jumpMemory s).dmem = s.dmem := by simp [jumpMemory]
@[simp] theorem jumpMemory_pc : (jumpMemory s).pc = s.latchM.buffer := by simp [jumpMemory]
@[simp] theorem jumpMemory_cyc : (jumpMemory s).cyc = s.cyc := by simp [jumpMemory]
@[simp] theorem jumpMemory_done : (jumpMemory s).done = s.done := by simp [jumpMemory]
@[simp] theorem jumpMemory_latchF : (jumpMemory s).latchF = Latch.bubble := by simp [jumpMemory]
@[simp] theorem jumpMemory_latchD : (jumpMemory s).latchD = Latch.bubble := by simp [jumpMemory]
@[simp] theorem jumpMemory_latchX : (jumpMemory s).latchX = Latch.bubble := by simp [jumpMemory]
@[simp] theorem jumpMemory_latchM : (jumpMemory s).latchM = s.latchM := by simp [jumpMemory]
@[simp] theorem jumpMemory_latchW : (jumpMemory s).latchW = s.latchM := by simp [jumpMemory]
@[simp] theorem jumpMemory_turn : (jumpMemory s).turn = s.turn := by simp [jumpMemory]

/-! ### executeArith -/

@[simp] theorem executeArith_status (r : Reg) (v : Word) : (executeArith r v s).status = s.status := rfl
@[simp] theorem executeArith_params (r : Reg) (v : Word) : (executeArith r v s).params = s.params := rfl
@[simp] theorem executeArith_config (r : Reg) (v : Word) : (executeArith r v s).config = s.config := rfl
@[simp] theorem executeArith_imem (r : Reg) (v : Word) : (executeArith r v s).imem = s.imem := rfl
@[simp] theorem executeArith_regs (r : Reg) (v : Word) : (executeArith r v s).regs = s.regs := rfl
@[simp] theorem executeArith_valid (r : Reg) (v : Word) : (executeArith r v s).valid = s.valid := rfl
@[simp] theorem executeArith_fwd (r : Reg) (v : Word) : (executeArith r v s).fwd = s.fwd.set r v := rfl
@[simp] theorem executeArith_z (r : Reg) (v : Word) : (executeArith r v s).z = (v == 0) := rfl
@[simp] theorem executeArith_dmem (r : Reg) (v : Word) : (executeArith r v s).dmem = s.dmem := rfl
@[simp] theorem executeArith_pc (r : Reg) (v : Word) : (executeArith r v s).pc = s.pc := rfl
@[simp] theorem executeArith_cyc (r : Reg) (v : Word) : (executeArith r v s).cyc = s.cyc := rfl
@[simp] theorem executeArith_done (r : Reg) (v : Word) : (executeArith r v s).done = s.done := rfl
@[simp] theorem executeArith_latchF (r : Reg) (v : Word) : (executeArith r v s).latchF = s.latchF := rfl
@[simp] theorem executeArith_latchD (r : Reg) (v : Word) : (executeArith r v s).latchD = s.latchD := rfl
@[simp] theorem executeArith_latchX (r : Reg) (v : Word) : (executeArith r v s).latchX = { s.latchX with buffer := v } := rfl
@[simp] theorem executeArith_latchM (r : Reg) (v : Word) : (executeArith r v s).latchM = { s.latchX with buffer := v } := rfl
@[simp] theorem executeArith_latchW (r : Reg) (v : Word) : (executeArith r v s).latchW = s.latchW := rfl
@[simp] theorem executeArith_turn (r : Reg) (v : Word) : (executeArith r v s).turn = s.turn := rfl

/-! ### executeLogic -/

@[simp] theorem executeLogic_status (r : Reg) (v : Word) : (executeLogic r v s).status = s.status := rfl
@[simp] theorem executeLogic_params (r : Reg) (v : Word) : (executeLogic r v s).params = s.params := rfl
@[simp] theorem executeLogic_config (r : Reg) (v : Word) : (executeLogic r v s).config = s.config := rfl
@[simp] theorem executeLogic_imem (r : Reg) (v : Word) : (executeLogic r v s).imem = s.imem := rfl
@[simp] theorem executeLogic_regs (r : Reg) (v : Word) : (executeLogic r v s).regs = s.regs := rfl
@[simp] theorem executeLogic_valid (r : Reg) (v : Word) : (executeLogic r v s).valid = s.valid := rfl
@[simp] theorem executeLogic_fwd (r : Reg) (v : Word) : (executeLogic r v s).fwd = s.fwd.set r v := rfl
@[simp] theorem executeLogic_z (r : Reg) (v : Word) : (executeLogic r v s).z = s.z := rfl
@[simp] theorem executeLogic_dmem (r : Reg) (v : Word) : (executeLogic r v s).dmem = s.dmem := rfl
@[simp] theorem executeLogic_pc (r : Reg) (v : Word) : (executeLogic r v s).pc = s.pc := rfl
@[simp] theorem executeLogic_cyc (r : Reg) (v : Word) : (executeLogic r v s).cyc = s.cyc := rfl
@[simp] theorem executeLogic_done (r : Reg) (v : Word) : (executeLogic r v s).done = s.done := rfl
@[simp] theorem executeLogic_latchF (r : Reg) (v : Word) : (executeLogic r v s).latchF = s.latchF := rfl
@[simp] theorem executeLogic_latchD (r : Reg) (v : Word) : (executeLogic r v s).latchD = s.latchD := rfl
@[simp] theorem executeLogic_latchX (r : Reg) (v : Word) : (executeLogic r v s).latchX = { s.latchX with buffer := v } := rfl
@[simp] theorem executeLogic_latchM (r : Reg) (v : Word) : (executeLogic r v s).latchM = { s.latchX with buffer := v } := rfl
@[simp] theorem executeLogic_latchW (r : Reg) (v : Word) : (executeLogic r v s).latchW = s.latchW := rfl
@[simp] theorem executeLogic_turn (r : Reg) (v : Word) : (executeLogic r v s).turn = s.turn := rfl

/-! ### memoryPublish -/

@[simp] theorem memoryPublish_status (r : Reg) : (memoryPublish r s).status = s.status := rfl
@[simp] theorem memoryPublish_params (r : Reg) : (memoryPublish r s).params = s.params := rfl
@[simp] theorem memoryPublish_config (r : Reg) : (memoryPublish r s).config = s.config := rfl
@[simp] theorem memoryPublish_imem (r : Reg) : (memoryPublish r s).imem = s.imem := rfl
@[simp] theorem memoryPublish_regs (r : Reg) : (memoryPublish r s).regs = s.regs := rfl
@[simp] theorem memoryPublish_valid (r : Reg) : (memoryPublish r s).valid = s.valid := rfl
@[simp] theorem memoryPublish_fwd (r : Reg) : (memoryPublish r s).fwd = s.fwd.set r s.latchM.buffer := rfl
@[simp] theorem memoryPublish_z (r : Reg) : (memoryPublish r s).z = s.z := rfl
@[simp] theorem memoryPublish_dmem (r : Reg) : (memoryPublish r s).dmem = s.dmem := rfl
@[simp] theorem memoryPublish_pc (r : Reg) : (memoryPublish r s).pc = s.pc := rfl
@[simp] theorem memoryPublish_cyc (r : Reg) : (memoryPublish r s).cyc = s.cyc := rfl
@[simp] theorem memoryPublish_done (r : Reg) : (memoryPublish r s).done = s.done := rfl
@[simp] theorem memoryPublish_latchF (r : Reg) : (memoryPublish r s).latchF = s.latchF := rfl
@[simp] theorem memoryPublish_latchD (r : Reg) : (memoryPublish r s).latchD = s.latchD := rfl
@[simp] theorem memoryPublish_latchX (r : Reg) : (memoryPublish r s).latchX = s.latchX := rfl
@[simp] theorem memoryPublish_latchM (r : Reg) : (memoryPublish r s).latchM = s.latchM := rfl
@[simp] theorem memoryPublish_latchW (r : Reg) : (memoryPublish r s).latchW = s.latchM := rfl
@[simp] theorem memoryPublish_turn (r : Reg) : (memoryPublish r s).turn = s.turn := rfl

/-! ### writebackArith -/

@[simp] theorem writebackArith_status (r : Reg) : (writebackArith r s).status = s.status := rfl
@[simp] theorem writebackArith_params (r : Reg) : (writebackArith r s).params = s.params := rfl
@[simp] theorem writebackArith_config (r : Reg) : (writebackArith r s).config = s.config := rfl
@[simp] theorem writebackArith_imem (r : Reg) : (writebackArith r s).imem = s.imem := rfl
@[simp] theorem writebackArith_regs (r : Reg) : (writebackArith r s).regs = s.regs.set r s.latchW.buffer := rfl
@[simp] theorem writebackArith_valid (r : Reg) : (writebackArith r s).valid = s.valid.set r true := rfl
@[simp] theorem writebackArith_fwd (r : Reg) : (writebackArith r s).fwd = s.fwd.set r s.latchW.buffer := rfl
@[simp] theorem writebackArith_z (r : Reg) : (writebackArith r s).z = (s.latchW.buffer == 0) := rfl
@[simp] theorem writebackArith_dmem (r : Reg) : (writebackArith r s).dmem = s.dmem := rfl
@[simp] theorem writebackArith_pc (r : Reg) : (writebackArith r s).pc = s.pc := rfl
@[simp] theorem writebackArith_cyc (r : Reg) : (writebackArith r s).cyc = s.cyc := rfl
@[simp] theorem writebackArith_done (r : Reg) : (writebackArith r s).done = s.done := rfl
@[simp] theorem writebackArith_latchF (r : Reg) : (writebackArith r s).latchF = s.latchF := rfl
@[simp] theorem writebackArith_latchD (r : Reg) : (writebackArith r s).latchD = s.latchD := rfl
@[simp] theorem writebackArith_latchX (r : Reg) : (writebackArith r s).latchX = s.latchX := rfl
@[simp] theorem writebackArith_latchM (r : Reg) : (writebackArith r s).latchM = s.latchM := rfl
@[simp] theorem writebackArith_latchW (r : Reg) : (writebackArith r s).latchW = s.latchW := rfl
@[simp] theorem writebackArith_turn (r : Reg) : (writebackArith r s).turn = s.turn := rfl

/-! ### mulFirstCycle -/

@[simp] theorem mulFirstCycle_status : (mulFirstCycle s).status = s.status := rfl
@[simp] theorem mulFirstCycle_params : (mulFirstCycle s).params = s.params := rfl
@[simp] theorem mulFirstCycle_config : (mulFirstCycle s).config = s.config := rfl
@[simp] theorem mulFirstCycle_imem : (mulFirstCycle s).imem = s.imem := rfl
@[simp] theorem mulFirstCycle_regs : (mulFirstCycle s).regs = s.regs := rfl
@[simp] theorem mulFirstCycle_valid : (mulFirstCycle s).valid = s.valid := rfl
@[simp] theorem mulFirstCycle_fwd : (mulFirstCycle s).fwd = s.fwd := rfl
@[simp] theorem mulFirstCycle_z : (mulFirstCycle s).z = s.z := rfl
@[simp] theorem mulFirstCycle_dmem : (mulFirstCycle s).dmem = s.dmem := rfl
@[simp] theorem mulFirstCycle_pc : (mulFirstCycle s).pc = s.pc := rfl
@[simp] theorem mulFirstCycle_cyc : (mulFirstCycle s).cyc = s.cyc := rfl
@[simp] theorem mulFirstCycle_done : (mulFirstCycle s).done = s.done := rfl
@[simp] theorem mulFirstCycle_latchF : (mulFirstCycle s).latchF = s.latchF := rfl
@[simp] theorem mulFirstCycle_latchD : (mulFirstCycle s).latchD = s.latchD := rfl
@[simp] theorem mulFirstCycle_latchX : (mulFirstCycle s).latchX = { s.latchX with buffer := mulWrap s.latchX.rs1Value s.latchX.rs2Value, stalled := true } := rfl
@[simp] theorem mulFirstCycle_latchM : (mulFirstCycle s).latchM = Latch.bubble := rfl
@[simp] theorem mulFirstCycle_latchW : (mulFirstCycle s).latchW = s.latchW := rfl
@[simp] theorem mulFirstCycle_turn : (mulFirstCycle s).turn = s.turn := rfl

/-! ### mulSecondCycle -/

@[simp] theorem mulSecondCycle_status (r : Reg) : (mulSecondCycle r s).status = s.status := rfl
@[simp] theorem mulSecondCycle_params (r : Reg) : (mulSecondCycle r s).params = s.params := rfl
@[simp] theorem mulSecondCycle_config (r : Reg) : (mulSecondCycle r s).config = s.config := rfl
@[simp] theorem mulSecondCycle_imem (r : Reg) : (mulSecondCycle r s).imem = s.imem := rfl
@[simp] theorem mulSecondCycle_regs (r : Reg) : (mulSecondCycle r s).regs = s.regs := rfl
@[simp] theorem mulSecondCycle_valid (r : Reg) : (mulSecondCycle r s).valid = s.valid := rfl
@[simp] theorem mulSecondCycle_fwd (r : Reg) : (mulSecondCycle r s).fwd = s.fwd.set r s.latchX.buffer := rfl
@[simp] theorem mulSecondCycle_z (r : Reg) : (mulSecondCycle r s).z = (s.latchX.buffer == 0) := rfl
@[simp] theorem mulSecondCycle_dmem (r : Reg) : (mulSecondCycle r s).dmem = s.dmem := rfl
@[simp] theorem mulSecondCycle_pc (r : Reg) : (mulSecondCycle r s).pc = s.pc := rfl
@[simp] theorem mulSecondCycle_cyc (r : Reg) : (mulSecondCycle r s).cyc = s.cyc := rfl
@[simp] theorem mulSecondCycle_done (r : Reg) : (mulSecondCycle r s).done = s.done := rfl
@[simp] theorem mulSecondCycle_latchF (r : Reg) : (mulSecondCycle r s).latchF = s.latchF := rfl
@[simp] theorem mulSecondCycle_latchD (r : Reg) : (mulSecondCycle r s).latchD = s.latchD := rfl
@[simp] theorem mulSecondCycle_latchX (r : Reg) : (mulSecondCycle r s).latchX = { s.latchX with stalled := false } := rfl
@[simp] theorem mulSecondCycle_latchM (r : Reg) : (mulSecondCycle r s).latchM = { s.latchX with stalled := false } := rfl
@[simp] theorem mulSecondCycle_latchW (r : Reg) : (mulSecondCycle r s).latchW = s.latchW := rfl
@[simp] theorem mulSecondCycle_turn (r : Reg) : (mulSecondCycle r s).turn = s.turn := rfl

end Sys2Proof.Machine
end

