-- ==== Sys2Proof/Laws/Registers.lean ====
section
/-! SUPPORT. What the register file, the validity bits and the forwarding table read after each operation on them (R17,
R104, R121). -/

namespace Sys2Proof.Machine

theorem vectorGet_set {α : Type} (v : Vector α 32) (r q : Reg) (x : α) :
    (v.set r x).get q = if r = q then x else v.get q := by
  simp only [Vector.get_eq_getElem, Vector.getElem_set, Fin.val_inj]

variable (s : State)

@[simp] theorem isValid_commit (r q : Reg) (v : Word) : isValid (commit r v s) q = if r = q then true else isValid s q :=
  vectorGet_set ..

@[simp] theorem readReg_commit (r q : Reg) (v : Word) : readReg (commit r v s) q = if r = q then v else readReg s q :=
  vectorGet_set ..

@[simp] theorem fwdEntry_commit (r q : Reg) (v : Word) : fwdEntry (commit r v s) q = if r = q then v else fwdEntry s q :=
  vectorGet_set ..

@[simp] theorem fwdEntry_publish (r q : Reg) (v : Word) : fwdEntry (publish r v s) q = if r = q then v else fwdEntry s q :=
  vectorGet_set ..

@[simp] theorem isValid_reserve (d : Option Reg) (q : Reg) :
    isValid (reserve d s) q = if d = some q then false else isValid s q := by
  cases d with
  | none => simp [reserve]
  | some r => simp only [reserve, isValid, vectorGet_set, Option.some.injEq]

/-- R104: releasing a latch makes valid exactly the register it had reserved. -/
@[simp] theorem isValid_release (l : Latch) (q : Reg) :
    isValid (release l s) q = if l.busy = false ∧ destOf l.instr = some q then true else isValid s q := by
  unfold release
  split <;> simp_all [isValid, vectorGet_set]

end Sys2Proof.Machine
end

