-- ==== Sys2Proof/Laws/Stages.lean ====
section
/-! SUPPORT. Each stage processor inverted once: what its turn can do, said completely, so that a proof about a tick cites
these lemmas and never unfolds `exec` (R118, R120, R124, R126, R127). -/

namespace Sys2Proof.Machine

/-! ### Sequencing -/

@[simp] theorem andThen_next (s : State) (f : State → Result) : andThen (.next s) f = f s := rfl
@[simp] theorem andThen_fault (r : Fault) (f : State → Result) : andThen (.fault r) f = .fault r := rfl
@[simp] theorem andThen_refused (r : Refusal) (f : State → Result) : andThen (.refused r) f = .refused r := rfl

/-- A sequence answers `next` exactly when both parts do. -/
theorem andThen_eq_next {o : Result} {f : State → Result} {t : State} :
    andThen o f = .next t ↔ ∃ u, o = .next u ∧ f u = .next t := by
  cases o <;> simp [andThen]

/-- A sequence faults in its first part or in its second. -/
theorem andThen_eq_fault {o : Result} {f : State → Result} {r : Fault} :
    andThen o f = .fault r ↔ o = .fault r ∨ ∃ u, o = .next u ∧ f u = .fault r := by
  cases o <;> simp [andThen]

/-- A sequence refuses in its first part or in its second. -/
theorem andThen_eq_refused {o : Result} {f : State → Result} {r : Refusal} :
    andThen o f = .refused r ↔ o = .refused r ∨ ∃ u, o = .next u ∧ f u = .refused r := by
  cases o <;> simp [andThen]

/-- A tick that answers `next` ran all five stages (R101). -/
theorem tick_eq_next {s t : State} :
    tick s = .next t ↔ ∃ a b c d e, writebackStage s = .next a ∧ memoryStage a = .next b ∧ executeStage b = .next c ∧
      decodeStage c = .next d ∧ fetchStage d = .next e ∧ t = { e with cyc := e.cyc + 1 } := by
  simp only [tick, andThen_eq_next, Host.Outcome.next.injEq]
  constructor
  · rintro ⟨a, ha, b, hb, c, hc, d, hd, e, he, rfl⟩
    exact ⟨a, b, c, d, e, ha, hb, hc, hd, he, rfl⟩
  · rintro ⟨a, b, c, d, e, ha, hb, hc, hd, he, rfl⟩
    exact ⟨a, ha, b, hb, c, hc, d, hd, e, he, rfl⟩

/-! ### Updates at a register that may be absent -/

/-- `v` with `x` at the register, if there is one. -/
def setAt {α : Type} (v : Vector α 32) (r : Option Reg) (x : α) : Vector α 32 :=
  match r with
  | some r => v.set r x
  | none => v

@[simp] theorem setAt_none {α : Type} (v : Vector α 32) (x : α) : setAt v none x = v := rfl
@[simp] theorem setAt_some {α : Type} (v : Vector α 32) (r : Reg) (x : α) : setAt v (some r) x = v.set r x := rfl

theorem setAt_get {α : Type} (v : Vector α 32) (r : Option Reg) (q : Reg) (x : α) :
    (setAt v r x).get q = if r = some q then x else v.get q := by
  cases r <;> simp [vectorGet_set]

/-! ### Writeback -/

/-- R127: the state Writeback leaves, whatever is in W. -/
def writebackResult (s : State) : State :=
  { s with
    turn := .writeback
    regs := setAt s.regs (writerOf s.latchW) s.latchW.buffer
    valid := setAt s.valid (writerOf s.latchW) true
    fwd := setAt s.fwd (writerOf s.latchW) s.latchW.buffer
    z := if s.latchW.busy = false ∧ isArith s.latchW.instr.op = true then s.latchW.buffer == 0 else s.z
    done := if s.latchW.busy = true ∨ s.latchW.instr.op = .nop then s.done else s.done + 1
    pc := if s.latchW.busy = false ∧ s.latchW.instr.op = .halt then wrap32 (termPc s) else s.pc
    latchM := if s.latchW.busy = false ∧ s.latchW.instr.op = .halt then frozenBubble else s.latchM }

/-- Writeback always completes, and does exactly this. -/
theorem writebackStage_eq (s : State) : writebackStage s = .next (writebackResult s) := by
  cases hb : s.latchW.busy
  · cases hi : s.latchW.instr <;>
      simp [writebackStage, writebackResult, hb, hi, exec, execNop, execAdd, execSub, execMul, execAnd, execOr, execXor,
        execMovc, execLoad, execStore, execBz, execBnz, execJump, execHalt, countDone, Instr.op, Instr.toRecord, writerOf,
        destOf, isArith, commit, writebackArith, setZ, freezeMemory, setPc]
    all_goals rfl
  · simp [writebackStage, writebackResult, hb, writerOf]

/-! ### Memory -/

/-- R170 to R172, R175: where the instruction in M transfers control to, if it does. -/
def redirectTarget (s : State) : Option Word :=
  match s.latchM.instr with
  | .bz _ _ _ imm => if s.z then some (addWrap s.latchM.pc imm) else none
  | .bnz _ _ _ imm => if s.z then none else some (addWrap s.latchM.pc imm)
  | .jump _ _ _ _ => some s.latchM.buffer
  | _ => none

/-- R160, R161: whether the instruction in M accesses data memory. -/
def accesses (i : Instr) : Bool := decide (i.op = .load) || decide (i.op = .store)

/-- R160: the latch M after the Memory action: a LOAD has read its word. -/
def loadedLatch (s : State) : Latch :=
  match s.latchM.instr with
  | .load _ _ _ _ => { s.latchM with buffer := s.dmem.read s.latchM.memAddress.toInt.toNat }
  | _ => s.latchM

/-- R161: the data memory after the Memory action: a STORE has written its word. -/
def storedMemory (s : State) : Memory :=
  match s.latchM.instr with
  | .store _ _ _ _ => s.dmem.write s.latchM.memAddress.toInt.toNat s.latchM.rs1Value
  | _ => s.dmem

/-- The instruction in M neither transfers control nor is a HALT. -/
def memoryPlain (s : State) : State :=
  { s with
    turn := .memory
    fwd := setAt s.fwd (destOf s.latchM.instr) (loadedLatch s).buffer
    dmem := storedMemory s
    latchM := loadedLatch s
    latchW := loadedLatch s }

/-- The instruction in M transfers control. -/
def memoryRedirect (s : State) (target : Word) : State :=
  { flushYounger
      (release s.latchX (if s.latchM.instr.op = .jump then release s.latchD s else s)) with
    turn := .memory, pc := target, latchW := s.latchM }

/-- A HALT in M. -/
def memoryHalt (s : State) : State := { s with turn := .memory, latchX := frozenBubble, latchW := s.latchM }

theorem dataIndex_eq_none {s : State} {a : Word} :
    dataIndex s a = none ↔ ¬ (0 ≤ a.toInt ∧ a.toInt < s.params.dmemWords) := by
  unfold dataIndex; split <;> simp [*]

theorem dataIndex_eq_some {s : State} {a : Word} {k : Nat} :
    dataIndex s a = some k ↔ (0 ≤ a.toInt ∧ a.toInt < s.params.dmemWords) ∧ a.toInt.toNat = k := by
  unfold dataIndex; split <;> simp [*]

/-- Every turn of Memory is one of these five. -/
theorem memoryStage_cases (s : State) :
    ((s.latchM.busy = true ∨ s.latchM.stalled = true) ∧ memoryStage s = .next { s with turn := .memory }) ∨
    (s.latchM.busy = false ∧ s.latchM.stalled = false ∧
      ((accesses s.latchM.instr = true ∧ dataIndex s s.latchM.memAddress = none ∧
          memoryStage s = .fault (.dataAddressOutOfRange s.latchM.pc s.latchM.memAddress)) ∨
        (∃ p, redirectTarget s = some p ∧ memoryStage s = .next (memoryRedirect s p)) ∨
        (s.latchM.instr.op = .halt ∧ memoryStage s = .next (memoryHalt s)) ∨
        (redirectTarget s = none ∧ s.latchM.instr.op ≠ .halt ∧
          (accesses s.latchM.instr = true → ∃ k, dataIndex s s.latchM.memAddress = some k) ∧
          memoryStage s = .next (memoryPlain s)))) := by
  by_cases hidle : s.latchM.busy = true ∨ s.latchM.stalled = true
  · left
    refine ⟨hidle, ?_⟩
    have : (s.latchM.busy || s.latchM.stalled) = true := by simpa using hidle
    simp [memoryStage, this]
  · right
    obtain ⟨hb, hs⟩ : s.latchM.busy = false ∧ s.latchM.stalled = false := by simpa using hidle
    refine ⟨hb, hs, ?_⟩
    cases hi : s.latchM.instr
    case load rd rs1 rs2 imm =>
      cases hd : dataIndex s s.latchM.memAddress with
      | none =>
        left
        have : dataIndex { s with turn := .memory } s.latchM.memAddress = none := hd
        simp [memoryStage, hb, hs, hi, exec, execLoad, loadMemory, this, raise, accesses, Instr.op, Instr.toRecord]
      | some k =>
        right; right; right
        have h : dataIndex { s with turn := .memory } s.latchM.memAddress = some k := hd
        have hk := (dataIndex_eq_some.1 hd).2
        simp [memoryStage, hb, hs, hi, exec, execLoad, loadMemory, h, redirectTarget, memoryPlain, loadedLatch,
          storedMemory, memoryPublish, advanceMemory, publish, destOf, Instr.op, Instr.toRecord, hk]
    case store rd rs1 rs2 imm =>
      cases hd : dataIndex s s.latchM.memAddress with
      | none =>
        left
        have : dataIndex { s with turn := .memory } s.latchM.memAddress = none := hd
        simp [memoryStage, hb, hs, hi, exec, execStore, storeMemory, this, raise, accesses, Instr.op, Instr.toRecord]
      | some k =>
        right; right; right
        have h : dataIndex { s with turn := .memory } s.latchM.memAddress = some k := hd
        have hk := (dataIndex_eq_some.1 hd).2
        simp [memoryStage, hb, hs, hi, exec, execStore, storeMemory, h, redirectTarget, memoryPlain, loadedLatch,
          storedMemory, advanceMemory, destOf, Instr.op, Instr.toRecord, hk]
    case bz rd rs1 rs2 imm =>
      cases hz : s.z <;>
        simp [memoryStage, hb, hs, hi, hz, exec, execBz, memoryBranch, redirectTarget, memoryPlain, memoryRedirect,
          loadedLatch, storedMemory, advanceMemory, destOf, Instr.op, Instr.toRecord, accesses, setPc, flushYounger]
      · unfold release; split <;> simp
    case bnz rd rs1 rs2 imm =>
      cases hz : s.z <;>
        simp [memoryStage, hb, hs, hi, hz, exec, execBnz, memoryBranch, redirectTarget, memoryPlain, memoryRedirect,
          loadedLatch, storedMemory, advanceMemory, destOf, Instr.op, Instr.toRecord, accesses, setPc, flushYounger]
      · unfold release; split <;> simp
    case jump rd rs1 rs2 imm =>
      right; left
      refine ⟨s.latchM.buffer, by simp [redirectTarget, hi], ?_⟩
      simp [memoryStage, hb, hs, hi, exec, execJump, jumpMemory, memoryRedirect, advanceMemory, Instr.op, Instr.toRecord,
        setPc, flushYounger]
      unfold release; split <;> split <;> simp
    all_goals
      simp [memoryStage, hb, hs, hi, exec, execNop, execAdd, execSub, execMul, execAnd, execOr, execXor, execMovc, execHalt,
        redirectTarget, memoryPlain, memoryHalt, loadedLatch, storedMemory, memoryPublish, publish, advanceMemory,
        freezeExecute, destOf, Instr.op, Instr.toRecord, accesses]

/-! ### Execute -/

/-- R140 to R173: the result buffer after the Execute action (MUL's second cycle keeps the product). -/
def executedBuffer (s : State) : Word :=
  match s.latchX.instr with
  | .add _ _ _ _ => addWrap s.latchX.rs1Value s.latchX.rs2Value
  | .sub _ _ _ _ => subWrap s.latchX.rs1Value s.latchX.rs2Value
  | .and _ _ _ _ => s.latchX.rs1Value &&& s.latchX.rs2Value
  | .or _ _ _ _ => s.latchX.rs1Value ||| s.latchX.rs2Value
  | .xor _ _ _ _ => s.latchX.rs1Value ^^^ s.latchX.rs2Value
  | .movc _ _ _ imm => imm
  | .jump _ _ _ imm => addWrap s.latchX.rs1Value imm
  | _ => s.latchX.buffer

/-- R160, R161: the effective address after the Execute action. -/
def executedAddress (s : State) : Word :=
  match s.latchX.instr with
  | .load _ _ _ imm => addWrap s.latchX.rs1Value imm
  | .store _ _ _ imm => addWrap s.latchX.rs2Value imm
  | _ => s.latchX.memAddress

/-- R161: the rs1 value after the Execute action. -/
def executedValue (s : State) : Word :=
  match s.latchX.instr with
  | .store _ rs1 _ _ => storeValue rs1 s
  | _ => s.latchX.rs1Value

/-- The latch X after an Execute action that completes. -/
def executedLatch (s : State) : Latch :=
  { s.latchX with
    rs1Value := executedValue s, memAddress := executedAddress s, buffer := executedBuffer s
    stalled := if s.latchX.instr.op = .mul then false else s.latchX.stalled }

/-- The register Execute publishes to: every producer's but a LOAD's (R35). -/
def publishedBy (i : Instr) : Option Reg := if i.op = .load then none else destOf i

/-- The instruction in X completes its Execute action and goes on to M. -/
def executePlain (s : State) : State :=
  { s with
    turn := .execute
    fwd := setAt s.fwd (publishedBy s.latchX.instr) (executedBuffer s)
    z := if isArith s.latchX.instr.op then executedBuffer s == 0 else s.z
    latchX := executedLatch s
    latchM := executedLatch s }

/-- MUL's first Execute cycle. -/
def executeMulHold (s : State) : State := { mulFirstCycle s with turn := .execute }

/-- A HALT in X. -/
def executeHalt (s : State) : State :=
  { s with turn := .execute, latchF := frozenBubble, latchD := frozenBubble, latchM := s.latchX }

/-- Every turn of Execute is one of these four; it never stops the run. -/
theorem executeStage_cases (s : State) :
    ((s.latchX.busy = true ∨ s.latchX.frozen = true) ∧ executeStage s = .next { s with turn := .execute }) ∨
    (s.latchX.busy = false ∧ s.latchX.frozen = false ∧
      ((s.latchX.instr.op = .mul ∧ s.latchX.stalled = false ∧ executeStage s = .next (executeMulHold s)) ∨
        (s.latchX.instr.op = .halt ∧ executeStage s = .next (executeHalt s)) ∨
        (s.latchX.instr.op ≠ .halt ∧ (s.latchX.instr.op = .mul → s.latchX.stalled = true) ∧
          executeStage s = .next (executePlain s)))) := by
  by_cases hidle : s.latchX.busy = true ∨ s.latchX.frozen = true
  · left
    have h : (s.latchX.busy || s.latchX.frozen) = true := by simpa using hidle
    exact ⟨hidle, by simp [executeStage, h]⟩
  · right
    obtain ⟨hb, hf⟩ : s.latchX.busy = false ∧ s.latchX.frozen = false := by simpa using hidle
    refine ⟨hb, hf, ?_⟩
    cases hi : s.latchX.instr
    case mul rd rs1 rs2 imm =>
      cases hst : s.latchX.stalled <;>
        simp [executeStage, hb, hf, hi, hst, exec, execMul, mulSecondCycle, executeMulHold, mulFirstCycle, holdExecute,
          executePlain, executedLatch, executedBuffer, executedAddress, executedValue, publishedBy, destOf, isArith,
          advanceExecute, setZ, publish, Instr.op, Instr.toRecord]
    case store rd rs1 rs2 imm =>
      simp [executeStage, hb, hf, hi, exec, execStore, executePlain, executedLatch, executedBuffer, executedAddress,
        executedValue, publishedBy, destOf, isArith, advanceExecute, Instr.op, Instr.toRecord, storeValue, fwdEntry]
    all_goals
      simp [executeStage, hb, hf, hi, exec, execNop, execAdd, execSub, execAnd, execOr, execXor, execMovc, execLoad, execBz,
        execBnz, execJump, execHalt, executeArith, executeLogic, executePlain, executeHalt, executedLatch, executedBuffer,
        executedAddress, executedValue, publishedBy, destOf, isArith, advanceExecute, setZ, publish, freezeFetchDecode,
        Instr.op, Instr.toRecord] <;>
      (cases hl : s.latchX; simp_all)

/-! ### Decode -/

/-- R110: the branch test of an opcode that has one. -/
def branchTest (s : State) : Bool :=
  (decide (s.latchD.instr.op = .bz) || decide (s.latchD.instr.op = .bnz)) && branchHazard s

/-- R109, R111, R110: the instruction in D may be forwarded with the operand values `a` and `b`. -/
structure Ready (s : State) (a b : Word) : Prop where
  rs1 : resolveField s (sourcesOf s.latchD.instr).rs1 s.latchD.rs1Value = .ready a
  rs2 : resolveField s (sourcesOf s.latchD.instr).rs2 s.latchD.rs2Value = .ready b
  dest : destHazard s (destOf s.latchD.instr) = false
  branch : branchTest s = false

/-- Every turn of Decode is one of these six; it never stops the run. -/
theorem decodeStage_cases (s : State) :
    ((s.latchD.busy = true ∨ s.latchD.frozen = true) ∧ decodeStage s = .next { s with turn := .decode }) ∨
    (s.latchD.busy = false ∧ s.latchD.frozen = false ∧
      ((s.latchD.instr.op = .nop ∧ s.latchX.stalled = true ∧ decodeStage s = .next { s with turn := .decode }) ∨
        (s.latchD.instr.op = .nop ∧ s.latchX.stalled = false ∧
          decodeStage s = .next { s with turn := .decode, latchX := s.latchD }) ∨
        (s.latchD.instr.op ≠ .nop ∧ s.latchX.stalled = true ∧
          decodeStage s = .next { s with turn := .decode, latchD := { s.latchD with stalled := true } }) ∨
        (s.latchD.instr.op ≠ .nop ∧ s.latchX.stalled = false ∧
          decodeStage s = .next { stallDecode s with turn := .decode }) ∨
        (s.latchD.instr.op ≠ .nop ∧ s.latchX.stalled = false ∧ ∃ a b, Ready s a b ∧
          decodeStage s = .next { forwardDecode a b (destOf s.latchD.instr) s with turn := .decode }))) := by
  by_cases hidle : s.latchD.busy = true ∨ s.latchD.frozen = true
  · left
    have h : (s.latchD.busy || s.latchD.frozen) = true := by simpa using hidle
    exact ⟨hidle, by simp [decodeStage, h]⟩
  · right
    obtain ⟨hb, hf⟩ : s.latchD.busy = false ∧ s.latchD.frozen = false := by simpa using hidle
    refine ⟨hb, hf, ?_⟩
    have hstage : decodeStage s = exec s.latchD.instr { s with turn := .decode } := by
      simp [decodeStage, hb, hf]
    by_cases hn : s.latchD.instr.op = .nop
    · have hexec : exec s.latchD.instr { s with turn := .decode } = .next (decodeNop { s with turn := .decode }) := by
        cases hi : s.latchD.instr <;> simp_all [Instr.op, Instr.toRecord, exec, execNop]
      rw [hstage, hexec]
      cases hx : s.latchX.stalled <;> simp [hn, decodeNop, hx]
    · have hexec : exec s.latchD.instr { s with turn := .decode } =
          .next (decodeTurn (sourcesOf s.latchD.instr) (destOf s.latchD.instr) (branchTest s) { s with turn := .decode }) := by
        cases hi : s.latchD.instr <;>
          simp_all [Instr.op, Instr.toRecord, exec, execAdd, execSub, execMul, execAnd, execOr, execXor, execMovc, execLoad,
            execStore, execBz, execBnz, execJump, execHalt, sourcesOf, destOf, branchTest, branchHazard]
      rw [hstage, hexec]
      rcases decodeTurn_cases { s with turn := .decode } (sourcesOf s.latchD.instr) (destOf s.latchD.instr) (branchTest s)
        with ⟨hx, e⟩ | ⟨hx, e⟩ | ⟨hx, a, b, h1, h2, h3, e⟩
      · exact .inr (.inr (.inl ⟨hn, hx, by rw [e]⟩))
      · exact .inr (.inr (.inr (.inl ⟨hn, hx, by rw [e]; rfl⟩)))
      · refine .inr (.inr (.inr (.inr ⟨hn, hx, a, b, ?_, ?_⟩)))
        · have h3' : branchTest s = false ∧ destHazard s (destOf s.latchD.instr) = false := by
            simpa [destHazard, isValid] using h3
          exact ⟨h1, h2, h3'.2, h3'.1⟩
        · rw [e]
          cases hd : destOf s.latchD.instr <;> simp [forwardDecode, reserve]

/-! ### Fetch -/

/-- The latch that holds a freshly fetched instruction. -/
def fetchedLatch (s : State) (i : Instr) : Latch := { Latch.bubble with instr := i, pc := s.pc }

/-- R118: the PC after a fetch. -/
def nextPc (s : State) : Word := wrap32 (s.pc.toInt + s.params.insnWidth)

/-- Whatever the instruction, its Fetch turn is the same (R118). -/
theorem exec_fetch (i : Instr) (s : State) (h : s.turn = .fetch) : exec i s = .next (fetchTurn i s) := by
  cases i <;>
    simp [exec, execNop, execAdd, execSub, execMul, execAnd, execOr, execXor, execMovc, execLoad, execStore, execBz,
      execBnz, execJump, execHalt, h]

/-- Every turn of Fetch is one of these six. -/
theorem fetchStage_cases (s : State) :
    (s.latchF.busy = true ∧ fetchStage s = .next { s with turn := .fetch }) ∨
    (s.latchF.busy = false ∧
      ((s.latchF.stalled = true ∧ s.latchD.stalled = true ∧ fetchStage s = .next { s with turn := .fetch }) ∨
        (s.latchF.stalled = true ∧ s.latchD.stalled = false ∧
          fetchStage s = .next
            { s with
              turn := .fetch, latchF := { s.latchF with stalled := false }, latchD := { s.latchF with stalled := false } }) ∨
        (s.latchF.stalled = false ∧ ∃ f, fetchAt s s.pc = .error f ∧ fetchStage s = .fault f) ∨
        (s.latchF.stalled = false ∧ ∃ i, fetchAt s s.pc = .ok i ∧
          ((s.latchD.stalled = true ∧
              fetchStage s = .next
                { s with turn := .fetch, latchF := { fetchedLatch s i with stalled := true }, pc := nextPc s }) ∨
            (s.latchD.stalled = false ∧
              fetchStage s = .next
                { s with
                  turn := .fetch, latchF := fetchedLatch s i, latchD := fetchedLatch s i, pc := nextPc s }))))) := by
  cases hb : s.latchF.busy
  · right
    refine ⟨rfl, ?_⟩
    cases hf : s.latchF.stalled
    · right; right
      have hfetch : fetchAt { s with turn := .fetch } s.pc = fetchAt s s.pc := rfl
      cases ha : fetchAt s s.pc with
      | error f => exact .inl ⟨rfl, f, rfl, by simp [fetchStage, hb, hf, hfetch, ha, raise]⟩
      | ok i =>
        refine .inr ⟨rfl, i, rfl, ?_⟩
        cases hd : s.latchD.stalled
        · exact .inr ⟨rfl, by simp [fetchStage, hb, hf, hfetch, ha, exec_fetch, fetchTurn, hd, fetchedLatch, nextPc]⟩
        · exact .inl ⟨rfl, by simp [fetchStage, hb, hf, hfetch, ha, exec_fetch, fetchTurn, hd, fetchedLatch, nextPc]⟩
    · cases hd : s.latchD.stalled <;> simp [fetchStage, hb, hf, hd, releaseFetch]
  · left
    simp [fetchStage, hb]

end Sys2Proof.Machine
end

