-- ==== Sys2Proof/Tests/Slice0.lean ====
section
/-! SUPPORT. Own tests: malformed terms refused, words from the spec's tables decoded, one turn of each instruction, and
for each obligation with hypotheses a concrete case that meets them. Expected values are the spec's. -/

open Sys2Proof Sys2Proof.Machine

namespace Sys2Proof.Tests

/-! ### Helpers -/

/-- The state a result goes on in. -/
def got : Result → Option State
  | .next t => some t
  | .fault _ => none
  | .refused _ => none

/-- The fault a result ends in. -/
def gotFault : Result → Option Fault
  | .next _ => none
  | .fault f => some f
  | .refused _ => none

/-- The state after one step (the state itself if the step stops). -/
def after (s : State) : State := (got (step s)).getD s

theorem step_after {s : State} (h : (got (step s)).isSome = true) : step s = .next (after s) := by
  unfold after
  cases hs : step s <;> simp_all [got]

theorem fault_of {o : Result} {f : Fault} (h : gotFault o = some f) : o = .fault f := by
  cases o <;> simp_all [gotFault]

/-- What validation answers, as data that can be compared. -/
def accepted {ε α : Type} : Except ε α → Option α
  | .ok a => some a
  | .error _ => none

def rejected {ε α : Type} : Except ε α → Option ε
  | .ok _ => none
  | .error e => some e

theorem ok_of {ε α : Type} {o : Except ε α} {a : α} (h : accepted o = some a) : o = .ok a := by
  cases o <;> simp_all [accepted]

theorem error_of {ε α : Type} {o : Except ε α} {e : ε} (h : rejected o = some e) : o = .error e := by
  cases o <;> simp_all [rejected]

/-- An instruction fetched from `pc`. -/
def latch (i : Instr) (pc : Word) : Latch := { Latch.bubble with instr := i, pc := pc }

/-- `MOVC R1,#5; ADD R3,R1,R2; HALT` (words of R96), loaded at reset. -/
def start : State :=
  { State.reset with imem := [.packed 0x0000000590800000, .packed 0x0000000011844000, .packed 0x00000000D0000000] }

/-- The pipeline with these latches, their reservations made, PC past the program. -/
def inFlight (d x m w : Latch) : State :=
  reserve (writerOf x) (reserve (writerOf m) (reserve (writerOf w)
    { start with pc := 4012, latchF := d, latchD := d, latchX := x, latchM := m, latchW := w }))

/-- `s` in the turn of a stage. -/
def inTurn (st : Stage) (s : State) : State := { s with turn := st }

/-! ### Ill-formed terms are refused (R84, R88) -/

theorem test_rd_too_large : rejected (Record.toInstr ⟨.add, 32, 1, 2, 0⟩) = some (.rd, 32) := by decide
theorem test_rs1_negative : rejected (Record.toInstr ⟨.load, 0, -1, 99, 0⟩) = some (.rs1, -1) := by decide
theorem test_rs2_too_large : rejected (Record.toInstr ⟨.store, 99, 31, 32, 0⟩) = some (.rs2, 32) := by decide
/-- R188: rd before rs1 before rs2. -/
theorem test_first_bad_field : rejected (Record.toInstr ⟨.xor, 0, 40, 41, 0⟩) = some (.rs1, 40) := by decide
theorem test_illformed_records :
    ¬ Record.WellFormed ⟨.movc, 32, 0, 0, 0⟩ ∧ ¬ Record.WellFormed ⟨.jump, 0, 32, 0, 0⟩ ∧
      ¬ Record.WellFormed ⟨.sub, 0, 0, -1, 0⟩ := by decide
/-- V75: an ignored field is not checked; only the packed form has no room for it. -/
theorem test_ignored_field_unchecked :
    accepted (Record.toInstr ⟨.movc, 1, 40, 0, 3⟩) = some (.movc 1 40 0 3) ∧
      ¬ (Instr.movc 1 40 0 3).WellFormed ∧ ¬ (Instr.halt 32 0 0 0).WellFormed ∧
      ¬ (Instr.nop 0 0 (-1) 0).WellFormed := by decide
/-- V74. -/
theorem test_launch_bounds_fault :
    gotFault (step (supplied ⟨Params.reference, Config.reference, [.record ⟨.add, 32, 1, 2, 0⟩],
      Vector.replicate 32 0, false, []⟩)) = some (.boundsError 0 .rd 32) := by decide
/-- V77. -/
theorem test_launch_encoding_fault :
    gotFault (step (supplied ⟨Params.reference, Config.reference, [.packed 0x00000000D0000000, .packed 1],
      Vector.replicate 32 0, false, []⟩)) = some (.illegalEncoding 1 1) := by decide

/-! ### Decoding words written out from the spec (R96 and section 3 of 95_test_vectors.md) -/

theorem test_decode_add : accepted (decode 0x0000000011844000) = some (.add 3 1 2 0) := by decide
theorem test_decode_sub : accepted (decode 0x000000002214C000) = some (.sub 4 5 6 0) := by decide
theorem test_decode_mul : accepted (decode 0x000000003FFBA000) = some (.mul 31 30 29 0) := by decide
theorem test_decode_and : accepted (decode 0x0000000040886000) = some (.and 1 2 3 0) := by decide
theorem test_decode_or : accepted (decode 0x0000000053A12000) = some (.or 7 8 9 0) := by decide
theorem test_decode_xor : accepted (decode 0x00000000652D8000) = some (.xor 10 11 12 0) := by decide
theorem test_decode_load :
    accepted (decode 0x800000007FFC0000) = some (.load 31 31 0 (BitVec.ofInt 32 (-2147483648))) := by decide
theorem test_decode_store : accepted (decode 0x7FFFFFFF807C0000) = some (.store 0 31 0 2147483647) := by decide
theorem test_decode_movc : accepted (decode 0xFFFFFFFF90000000) = some (.movc 0 0 0 (BitVec.ofInt 32 (-1))) := by decide
theorem test_decode_bz : accepted (decode 0xFFFFFFF8A0000000) = some (.bz 0 0 0 (BitVec.ofInt 32 (-8))) := by decide
theorem test_decode_bnz : accepted (decode 0xFFFFFFFCB0000000) = some (.bnz 0 0 0 (BitVec.ofInt 32 (-4))) := by decide
theorem test_decode_jump :
    accepted (decode 0xFFFFF060C07C0000) = some (.jump 0 31 0 (BitVec.ofInt 32 (-4000))) := by decide
theorem test_decode_halt : accepted (decode 0x00000000D0000000) = some (.halt 0 0 0 0) := by decide
/-- E13: the ignored fields of a NOP are carried. -/
theorem test_decode_nop : accepted (decode 0x00000063038C0000) = some (.nop 7 3 0 99) := by decide
/-- E14, E15. -/
theorem test_decode_illegal :
    rejected (decode 0x00000000E0000000) = some .reservedOpcode ∧
      rejected (decode 0x00000000F0000000) = some .reservedOpcode ∧
      rejected (decode 0x00000000D0000001) = some .reservedBits ∧
      rejected (decode 0x00000000D0001000) = some .reservedBits := by decide
theorem test_decode_table_word :
    decodeTableWord 64 0x0000000591800000 = some (.movc 3 0 0 5) ∧ decodeTableWord 32 0xE0000000 = none := by decide

/-! ### One turn of each instruction -/

/-- A latch X with operand values. -/
def operands (i : Instr) (a b : Int) : Latch := { latch i 4000 with rs1Value := wrap32 a, rs2Value := wrap32 b }

/-- The Execute turn of `i` on operands `a` and `b`, from flag `z`: what goes on to M, and Z. -/
def executed (i : Instr) (a b : Int) (z : Bool) : Option (Int × Bool) :=
  (got (exec i (inTurn .execute { start with latchX := operands i a b, z := z }))).map fun t =>
    (t.latchM.buffer.toInt, t.z)

/-- V1, V3. -/
theorem test_add_wraps :
    executed (.add 3 1 2 0) 2147483647 1 true = some (-2147483648, false) ∧
      executed (.add 3 1 2 0) (-2147483648) (-2147483648) false = some (0, true) := by decide
/-- V4, V6. -/
theorem test_sub_order :
    executed (.sub 3 1 2 0) 5 7 true = some (-2, false) ∧
      executed (.sub 3 1 2 0) (-2147483648) 1 false = some (2147483647, false) := by decide
/-- V9, V7 in the second cycle: the flag and the value that goes on. -/
theorem test_mul_first_cycle :
    (got (exec (.mul 3 1 2 0) (inTurn .execute { start with latchX := operands (.mul 3 1 2 0) 2147483647 2 }))).map
      (fun t => (t.latchX.buffer.toInt, t.latchX.stalled, t.latchM, fwdEntry t 3)) =
        some (-2, true, Latch.bubble, 0) := by decide
theorem test_mul_second_cycle :
    (got (exec (.mul 3 1 2 0) (inTurn .execute { start with
      latchX := { operands (.mul 3 1 2 0) 65536 65536 with stalled := true } }))).map
        (fun t => (t.latchM.buffer.toInt, t.latchM.stalled, t.z, t.latchX.stalled)) =
          some (0, false, true, false) := by decide
/-- V11, V12: Z unchanged. -/
theorem test_and : executed (.and 3 1 2 0) (-1) 3855 true = some (3855, true) ∧
    executed (.and 3 1 2 0) 3855 28784 false = some (0, false) := by decide
/-- V13, V14. -/
theorem test_or : executed (.or 3 1 2 0) 0 0 true = some (0, true) ∧
    executed (.or 3 1 2 0) (-2147483648) 1 false = some (-2147483647, false) := by decide
/-- V15, V16. -/
theorem test_xor : executed (.xor 3 1 2 0) (-1) 21845 false = some (-21846, false) ∧
    executed (.xor 3 1 2 0) 9 9 false = some (0, false) := by decide
/-- V17, V18: Z unchanged; the result is published in Execute (C3). -/
theorem test_movc : executed (.movc 1 0 0 (wrap32 (-1))) 7 7 true = some (-1, true) ∧
    (got (exec (.movc 1 0 0 5) (inTurn .execute start))).map (fun t => fwdEntry t 1) = some 5 := by decide
/-- V23: the word at R1 - 2, published. -/
theorem test_load_address :
    (got (exec (.load 3 1 0 (wrap32 (-2))) (inTurn .execute { start with
      latchX := operands (.load 3 1 0 (wrap32 (-2))) 12 0 }))).map (fun t => t.latchM.memAddress.toInt) = some 10 := by
  decide
theorem test_load_reads :
    (got (exec (.load 3 1 0 0) (inTurn .memory { start with
      dmem := [(10, wrap32 (-5))], latchM := { latch (.load 3 1 0 0) 4000 with memAddress := 10 } }))).map
        (fun t => (t.latchW.buffer.toInt, (fwdEntry t 3).toInt)) = some (-5, -5) := by decide
/-- V22: value rs1, base rs2. -/
theorem test_store_address :
    (got (exec (.store 0 1 2 (wrap32 (-4))) (inTurn .execute { start with
      latchX := operands (.store 0 1 2 (wrap32 (-4))) 77 10 }))).map
        (fun t => (t.latchM.memAddress.toInt, t.latchM.rs1Value.toInt)) = some (6, 77) := by decide
/-- V71, and V21's word: a store outside data memory faults, one inside writes its word. -/
theorem test_store_writes :
    (got (exec (.store 0 1 2 0) (inTurn .memory { start with
      latchM := { latch (.store 0 1 2 0) 4004 with memAddress := 14, rs1Value := wrap32 (-9) } }))).map
        (fun t => t.dmem) = some [(14, wrap32 (-9))] ∧
    gotFault (exec (.store 0 1 2 0) (inTurn .memory { start with
      latchM := { latch (.store 0 1 2 0) 4004 with memAddress := wrap32 (-1) } })) =
        some (.dataAddressOutOfRange 4004 (wrap32 (-1))) := by decide
/-- V40, V41: BZ at 4000 with offset 8. -/
theorem test_bz :
    (got (exec (.bz 0 0 0 8) (inTurn .memory { start with z := true, latchM := latch (.bz 0 0 0 8) 4000 }))).map
      (fun t => t.pc.toInt) = some 4008 ∧
    (got (exec (.bz 0 0 0 8) (inTurn .memory { start with z := false, pc := 4012, latchM := latch (.bz 0 0 0 8) 4000 }))).map
      (fun t => t.pc.toInt) = some 4012 := by decide
/-- V42, V43. -/
theorem test_bnz :
    (got (exec (.bnz 0 0 0 8) (inTurn .memory { start with z := false, latchM := latch (.bnz 0 0 0 8) 4000 }))).map
      (fun t => t.pc.toInt) = some 4008 ∧
    (got (exec (.bnz 0 0 0 8) (inTurn .memory { start with z := true, pc := 4012, latchM := latch (.bnz 0 0 0 8) 4000 }))).map
      (fun t => t.pc.toInt) = some 4012 := by decide
/-- P6: R1 = 4012, JUMP R1,#4 goes to 4016. -/
theorem test_jump_target :
    (got (exec (.jump 0 1 0 4) (inTurn .execute { start with latchX := operands (.jump 0 1 0 4) 4012 0 }))).map
      (fun t => t.latchM.buffer.toInt) = some 4016 := by decide
/-- R172: X's and D's reservations are released. -/
theorem test_jump_releases :
    (got (exec (.jump 0 1 0 4) (inTurn .memory (inFlight (latch (.movc 2 0 0 2) 4008) (latch (.movc 1 0 0 1) 4004)
      { latch (.jump 0 1 0 4) 4000 with buffer := 4016 } Latch.bubble)))).map
        (fun t => (t.pc.toInt, isValid t 1, t.latchX, t.latchD, t.latchF)) =
          some (4016, true, Latch.bubble, Latch.bubble, Latch.bubble) := by decide
/-- W1: TERM_PC of four records is 4036; of these three, 4032. -/
theorem test_halt_writeback :
    (got (exec (.halt 0 0 0 0) (inTurn .writeback start))).map (fun t => (t.pc.toInt, t.latchM)) =
      some (4032, frozenBubble) := by decide
theorem test_nop : got (exec (.nop 7 3 0 99) (inTurn .writeback start)) = some (inTurn .writeback start) := by decide

/-- W1, tick 1: MOVC enters F and D, PC moves on. -/
theorem test_first_tick :
    (got (step start)).map (fun t => (t.latchD, t.latchX, t.pc.toInt, t.cyc)) =
      some (latch (.movc 1 0 0 5) 4000, Latch.unprimed, 4004, 1) := by decide
/-- R62 at a PC that has wrapped to CODE_BASE = -2^31 (log entry 14). -/
theorem test_wrapped_pc_at_code_base :
    accepted (fetchAt { start with params := { Params.reference with codeBase := -2 ^ 31 } } (wrap32 (2 ^ 31))) =
      some (.movc 1 0 0 5) := by decide
/-- The word stored where the next step fetches; at reset nothing but the instruction memory changes. -/
theorem test_fetch_word :
    State.reset.withFetchWord 64 0x0000000011844000 = { State.reset with imem := [.packed 0x0000000011844000] } := by
  decide

/-! ### The invariant of a concrete state -/

theorem storeValueReady_of {s : State}
    (h : (match s.latchX.instr with | .store _ r _ _ => isLoadOf s.latchM.instr r | _ => false) = false) :
    StoreValueReady s := by
  intro rd rs1 rs2 imm hx
  rw [hx] at h
  exact h

/-- A pipeline with nothing in D, X, M or W but what is given, with no HALT and nothing stalled. -/
def jumpingTo (target : Word) : State :=
  inFlight (latch (.movc 2 0 0 2) 4008) (latch (.movc 1 0 0 1) 4004) { latch (.jump 0 1 0 4) 4000 with buffer := target }
    Latch.bubble

def jumping : State := jumpingTo 4004

def multiplying : State := inFlight (latch (.add 4 3 3 0) 4004) (operands (.mul 3 1 2 0) 6 7) Latch.bubble Latch.bubble

def multiplied : State :=
  { inFlight (latch (.nop 0 0 0 0) 4004) { operands (.mul 3 1 2 0) 6 7 with stalled := true, buffer := 42 }
    Latch.bubble Latch.bubble with z := true }

/-- A HALT that has been through Memory: F, D and X frozen, its stale copy in M. -/
def halting : State := inFlight frozenBubble frozenBubble (latch (.halt 0 0 0 0) 4008) (latch (.halt 0 0 0 0) 4008)

def storing : State :=
  inFlight Latch.bubble Latch.bubble { latch (.store 0 1 2 0) 4004 with memAddress := 4095, rs1Value := 9 } Latch.bubble

def loadingOutside : State :=
  inFlight Latch.bubble Latch.bubble { latch (.load 3 1 0 0) 4004 with memAddress := 4096 } Latch.bubble

def committing : State := inFlight Latch.bubble Latch.bubble Latch.bubble (latch (.sub 1 1 1 0) 4000)

theorem inv_start : Inv start :=
  ⟨⟨by decide, by decide, rfl⟩, rfl, by unfold BusyChain; decide, by unfold FetchHolds; decide,
    by unfold StalledStages; decide, by unfold HaltPhase; decide, by unfold SingleWriter; decide,
    by unfold ForwardsResults; decide, storeValueReady_of (by decide)⟩

theorem inv_jumpingTo {p : Word} (h : p = 4004 ∨ p = 4002 ∨ p = 0) : Inv (jumpingTo p) := by
  refine ⟨⟨?_, ?_, rfl⟩, rfl, ?_, ?_, ?_, ?_, ?_, ?_, storeValueReady_of ?_⟩ <;>
    try unfold BusyChain
  all_goals try unfold FetchHolds
  all_goals try unfold StalledStages
  all_goals try unfold HaltPhase
  all_goals try unfold SingleWriter
  all_goals try unfold ForwardsResults
  all_goals rcases h with rfl | rfl | rfl <;> decide

theorem inv_jumping : Inv jumping := inv_jumpingTo (.inl rfl)

theorem inv_multiplying : Inv multiplying :=
  ⟨⟨by decide, by decide, rfl⟩, rfl, by unfold BusyChain; decide, by unfold FetchHolds; decide,
    by unfold StalledStages; decide, by unfold HaltPhase; decide, by unfold SingleWriter; decide,
    by unfold ForwardsResults; decide, storeValueReady_of (by decide)⟩

theorem inv_multiplied : Inv multiplied :=
  ⟨⟨by decide, by decide, rfl⟩, rfl, by unfold BusyChain; decide, by unfold FetchHolds; decide,
    by unfold StalledStages; decide, by unfold HaltPhase; decide, by unfold SingleWriter; decide,
    by unfold ForwardsResults; decide, storeValueReady_of (by decide)⟩

theorem inv_halting : Inv halting :=
  ⟨⟨by decide, by decide, rfl⟩, rfl, by unfold BusyChain; decide, by unfold FetchHolds; decide,
    by unfold StalledStages; decide, by unfold HaltPhase; decide, by unfold SingleWriter; decide,
    by unfold ForwardsResults; decide, storeValueReady_of (by decide)⟩

theorem inv_loadingOutside : Inv loadingOutside :=
  ⟨⟨by decide, by decide, rfl⟩, rfl, by unfold BusyChain; decide, by unfold FetchHolds; decide,
    by unfold StalledStages; decide, by unfold HaltPhase; decide, by unfold SingleWriter; decide,
    by unfold ForwardsResults; decide, storeValueReady_of (by decide)⟩

theorem tick_start : TickTo start (after start) := ⟨⟨rfl, by decide, by decide⟩, step_after (by decide)⟩
theorem tick_jumping : TickTo jumping (after jumping) := ⟨⟨rfl, by decide, by decide⟩, step_after (by decide)⟩
theorem tick_multiplying : TickTo multiplying (after multiplying) :=
  ⟨⟨rfl, by decide, by decide⟩, step_after (by decide)⟩
theorem tick_multiplied : TickTo multiplied (after multiplied) :=
  ⟨⟨rfl, by decide, by decide⟩, step_after (by decide)⟩
theorem tick_halting : TickTo halting (after halting) := ⟨⟨rfl, by decide, by decide⟩, step_after (by decide)⟩
theorem tick_storing : TickTo storing (after storing) := ⟨⟨rfl, by decide, by decide⟩, step_after (by decide)⟩
theorem tick_committing : TickTo committing (after committing) :=
  ⟨⟨rfl, by decide, by decide⟩, step_after (by decide)⟩

theorem redirects_jumping : Redirects jumping 4004 := ⟨by decide, .inr (.inr (by decide))⟩

/-! ### The hypotheses of the obligations are met -/

theorem witness_DecodeOfEncode :
    (Instr.add 31 0 31 5).WellFormed ∧ (Instr.nop 31 0 31 (BitVec.ofInt 32 (-1))).WellFormed := by decide

theorem witness_EncodeOfDecode : decode 0xFFFFFFFF903FE000 = .ok (.movc 0 15 31 (BitVec.ofInt 32 (-1))) :=
  ok_of (by decide)

theorem witness_PackedWordFields :
    BitVec.toNat (0x00000000DFFFE000 : BitVec 64) % 2 ^ 13 = 0 ∧
      Opcode.halt.code.toNat = BitVec.toNat (0x00000000DFFFE000 : BitVec 64) / 2 ^ 28 % 16 := by decide

theorem witness_RecordValidation :
    Record.toInstr ⟨.mul, 0, 31, 0, 7⟩ = .ok (.mul 0 31 0 7) ∧ Record.toInstr ⟨.movc, 32, 0, 0, 0⟩ = .error (.rd, 32) ∧
      Record.toInstr ⟨.jump, 99, 32, 0, 0⟩ = .error (.rs1, 32) ∧
      Record.toInstr ⟨.store, 99, 0, -1, 0⟩ = .error (.rs2, -1) :=
  ⟨ok_of (by decide), error_of (by decide), error_of (by decide), error_of (by decide)⟩

/-- The reference launch of a program. -/
def launching (prog : List Slot) : LaunchInputs :=
  { params := Params.reference, config := Config.reference, imem := prog, regs := Vector.replicate 32 0, z := false
    dmem := [] }

/-- TERM_PC + INSN_WIDTH one past the greatest value allowed; and exactly at it, with the last PC below TERM_PC. -/
theorem witness_LaunchRefusesBadParameters :
    (supplied { launching [] with params := { Params.reference with codeBase := 2 ^ 31 - 23 } }).status = .launching ∧
      ¬ Params.Ok { Params.reference with codeBase := 2 ^ 31 - 23 } 0 ∧
      Params.Ok { Params.reference with codeBase := 2 ^ 31 - 24 } 0 ∧
      (2147483643 : Word).toInt < Params.termPc { Params.reference with codeBase := 2 ^ 31 - 24 } 0 := by decide

theorem witness_LaunchFaultsAtFirstBadSlot :
    ParamsOk (supplied (launching [.packed 0, .packed 0x00000000E0000000])) ∧ SlotOk (.packed 0) ∧
      IllegalWord 0x00000000E0000000 ∧ IllegalWord 0x0000000000001000 ∧ SlotOk (.record ⟨.movc, 31, 40, -1, 0⟩) ∧
      ParamsOk (supplied (launching [.record ⟨.movc, 31, 40, -1, 0⟩, .record ⟨.add, 0, 32, 32, 0⟩])) ∧
      Opcode.add.uses .rs1 = true ∧ ¬ InRegRange 32 ∧
      ∀ g ∈ checkedBefore .rs1, InRegRange (Record.field ⟨.add, 0, 32, 32, 0⟩ g) := by
  unfold ParamsOk SlotOk IllegalWord; decide

theorem witness_LaunchResets :
    ParamsOk (supplied (launching start.imem)) ∧
      ∀ slot ∈ (launching start.imem).imem, SlotOk slot := by
  refine ⟨by unfold ParamsOk; decide, ?_⟩
  intro slot h
  simp only [launching, start, List.mem_cons, List.not_mem_nil, or_false] at h
  rcases h with rfl | rfl | rfl <;> (unfold SlotOk IllegalWord; decide)

theorem witness_LaunchMeetsInvariants :
    (supplied (launching start.imem)).status = .launching ∧ MemoryOk (supplied (launching start.imem)) ∧
      step (supplied (launching start.imem)) = .next (after (supplied (launching start.imem))) :=
  ⟨rfl, by unfold MemoryOk; decide, step_after (by decide)⟩

/-- Each stop test at its boundary: PC at TERM_PC; PC one below it with the budget used up. -/
theorem witness_DriverStops :
    let a : State := { start with pc := 4032, cyc := 200 }
    let b : State := { start with pc := 4031, cyc := 200 }
    a.status = .running ∧ termPc a ≤ a.pc.toInt ∧ b.status = .running ∧ b.pc.toInt < termPc b ∧
      b.config.cycleBudget ≤ b.cyc := by decide

theorem witness_TickRunsTheLatches : Ticking { start with pc := 4031, cyc := 199 } := ⟨rfl, by decide, by decide⟩

theorem witness_StepRunsFetchedInstruction :
    Ticking start ∧ (∃ u, fourStages start = .next u ∧ u.latchF.busy = false ∧ u.latchF.stalled = false ∧
      fetchAt u u.pc = .ok (.movc 1 0 0 5)) ∧ start.latchW.busy = true ∧ start.latchM.busy = true ∧
      start.latchX.busy = true ∧ start.latchD.busy = true :=
  ⟨⟨rfl, by decide, by decide⟩, ⟨_, rfl, rfl, rfl, ok_of (by decide)⟩, rfl, rfl, rfl, rfl⟩

theorem witness_FetchWordIsRun :
    decodeTableWord 64 0xFFFFFFFC80044000 = some (.store 0 1 2 (BitVec.ofInt 32 (-4))) ∧
      decodeTableWord 32 0xD0000000 = some (.halt 0 0 0 0) ∧ 1 ≤ State.reset.params.insnWidth ∧
      -2 ^ 31 ≤ State.reset.params.codeBase ∧ State.reset.params.codeBase < 2 ^ 31 := by decide

/-- One address for each test of R62: below CODE_BASE, off the grid, END_PC, and the last record. -/
theorem witness_FetchAtTests :
    (3999 : Word).toInt < start.params.codeBase ∧
      (start.params.codeBase ≤ (4001 : Word).toInt ∧
        ((4001 : Word).toInt - start.params.codeBase) % start.params.insnWidth ≠ 0) ∧
      (start.params.codeBase + start.params.insnWidth * start.imem.length ≤ (4012 : Word).toInt ∧
        ((4012 : Word).toInt - start.params.codeBase) % start.params.insnWidth = 0) ∧
      (4008 : Word).toInt = start.params.codeBase + start.params.insnWidth * (2 : Nat) ∧
      ∃ slot, start.imem[2]? = some slot ∧ slotInstr 2 slot = .ok (.halt 0 0 0 0) :=
  ⟨by decide, by decide, by decide, by decide, _, rfl, ok_of (by decide)⟩

/-- Each turn of Fetch: unprimed, holding, releasing, and fetching into a free and a held D. -/
theorem witness_FetchStageTurns :
    let held : State := { start with latchF := { latch (.halt 0 0 0 0) 4008 with stalled := true } }
    ({ start with latchF := Latch.unprimed } : State).latchF.busy = true ∧ held.latchF.busy = false ∧
      held.latchF.stalled = true ∧ held.latchD.stalled = false ∧
      ({ held with latchD := frozenBubble } : State).latchD.stalled = true ∧ start.latchF.busy = false ∧
      start.latchF.stalled = false ∧ start.latchD.stalled = false ∧ fetchAt start start.pc = .ok (.movc 1 0 0 5) ∧
      fetchAt { start with pc := 3996 } 3996 = .error (.fetchOutOfRange 3996) :=
  ⟨rfl, rfl, rfl, rfl, rfl, rfl, rfl, rfl, ok_of (by decide), error_of (by decide)⟩

/-- Register 3 reserved by a LOAD in X, with and without forwarding; register 4 by an older one; register 0 valid. -/
theorem witness_OperandResolution :
    let s := inFlight Latch.bubble (latch (.load 3 0 0 0) 4004) (latch (.load 4 0 0 0) 4000) Latch.bubble
    isValid s 0 = true ∧ isValid s 3 = false ∧ s.config.forwarding = true ∧ s.latchX.instr.op = .load ∧
      destOf s.latchX.instr = some 3 ∧ isValid s 4 = false ∧ destOf s.latchX.instr ≠ some 4 ∧
      ({ s with config := { s.config with forwarding := false } } : State).config.forwarding = false := by decide

theorem witness_BranchZeroHazard :
    start.config.forwarding = true ∧
      ({ start with config := { start.config with forwarding := false } } : State).config.forwarding = false := by decide

/-- An ADD in D: X stalled; X free with R1 reserved by a LOAD there; X free and no hazard. -/
theorem witness_DecodeTurns :
    let i : Instr := .add 3 1 2 0
    let a := inTurn .decode multiplied
    let b := inTurn .decode (inFlight (latch i 4004) (latch (.load 1 0 0 0) 4000) Latch.bubble Latch.bubble)
    let c := inTurn .decode (inFlight (latch i 4004) Latch.bubble Latch.bubble Latch.bubble)
    i.op ≠ .nop ∧ a.turn = .decode ∧ a.latchX.stalled = true ∧ b.latchX.stalled = false ∧
      (sourcesOf i).rs1 = some 1 ∧ resolveOperand b 1 = .stall ∧ c.latchX.stalled = false ∧
      resolveOperand c 1 ≠ .stall ∧ resolveOperand c 2 ≠ .stall ∧ destOf i = some 3 ∧ isValid c 3 = true := by decide

/-- The turns of the instructions' result statements. -/
theorem witness_InTurn :
    (inTurn .decode start).turn = .decode ∧ (inTurn .execute start).turn = .execute ∧
      (inTurn .memory start).turn = .memory ∧ (inTurn .writeback start).turn = .writeback := by decide

/-- Both cycles of `MulRuns`, both forms of `NopRuns`. -/
theorem witness_MulRuns : multiplying.latchX.stalled = false ∧ multiplied.latchX.stalled = true := by decide

/-- `LoadRuns` and `StoreRuns`: the first and last word of data memory, and the addresses on either side of them. -/
theorem witness_LoadRuns :
    (0 : Word).toInt = (0 : Nat) ∧ 0 < start.params.dmemWords ∧ (4095 : Word).toInt = (4095 : Nat) ∧
      4095 < start.params.dmemWords ∧
      ¬ (0 ≤ (4096 : Word).toInt ∧ (4096 : Word).toInt < start.params.dmemWords) ∧
      ¬ (0 ≤ (BitVec.ofInt 32 (-1)).toInt ∧ (BitVec.ofInt 32 (-1)).toInt < start.params.dmemWords) := by decide

/-- `StoreRuns`: the re-check with a LOAD of the value register in M, and with another instruction there. -/
theorem witness_StoreRuns :
    start.dmem.wf = true ∧ loadingOutside.latchM.instr.op = .load ∧ destOf loadingOutside.latchM.instr = some 3 ∧
      ¬ (storing.latchM.instr.op = .load ∧ destOf storing.latchM.instr = some 1) := by decide

/-- `BranchesRun`: both values of Z. -/
theorem witness_BranchesRun : start.z = false ∧ ({ start with z := true } : State).z = true := by decide

theorem witness_StepKeepsLaunchInputs : step start = .next (after start) := tick_start.answers

/-- `TickCounts`: W with an instruction, W unprimed, W with a NOP. -/
theorem witness_TickCounts :
    TickTo committing (after committing) ∧ committing.latchW.busy = false ∧ committing.latchW.instr.op ≠ .nop ∧
      TickTo start (after start) ∧ start.latchW.busy = true ∧ TickTo storing (after storing) ∧
      storing.latchW.instr.op = .nop :=
  ⟨tick_committing, by decide, by decide, tick_start, by decide, tick_storing, by decide⟩

theorem witness_RegistersChangeByCommit :
    TickTo committing (after committing) ∧ writerOf committing.latchW = some 1 := ⟨tick_committing, by decide⟩

theorem witness_DataMemoryChangesByStore :
    TickTo storing (after storing) ∧ storing.dmem.wf = true ∧ storing.latchM.live ∧ storing.latchM.instr.op = .store ∧
      ¬ HaltInWriteback storing ∧ TickTo start (after start) ∧ ¬ start.latchM.live :=
  ⟨tick_storing, by decide, by decide, by decide, by unfold HaltInWriteback; decide, tick_start, by decide⟩

theorem witness_ZeroFlagChangesByArithmetic :
    TickTo committing (after committing) ∧ isArith committing.latchX.instr.op = false ∧
      isArith committing.latchW.instr.op = true ∧ committing.latchW.busy = false ∧ TickTo start (after start) ∧
      isArith start.latchX.instr.op = false ∧ start.latchW.busy = true :=
  ⟨tick_committing, by decide, by decide, by decide, tick_start, by decide, by decide⟩

theorem not_redirects_of {s : State} (h : s.latchM.instr.op ≠ .bz ∧ s.latchM.instr.op ≠ .bnz ∧ s.latchM.instr.op ≠ .jump)
    (p : Word) : ¬ Redirects s p := by
  rintro ⟨-, ⟨_, _, _, _, e, -⟩ | ⟨_, _, _, _, e, -⟩ | ⟨e, -⟩⟩
  · rw [e] at h; exact h.1 rfl
  · rw [e] at h; exact h.2.1 rfl
  · exact h.2.2 e

theorem witness_PcMoves :
    (Inv halting ∧ TickTo halting (after halting) ∧ HaltInWriteback halting) ∧
      (Inv jumping ∧ TickTo jumping (after jumping) ∧ ¬ HaltInWriteback jumping ∧ Redirects jumping 4004) ∧
      (Inv start ∧ TickTo start (after start) ∧ ¬ HaltInWriteback start ∧ ∀ p, ¬ Redirects start p) :=
  ⟨⟨inv_halting, tick_halting, by unfold HaltInWriteback; decide⟩,
    ⟨inv_jumping, tick_jumping, by unfold HaltInWriteback; decide, redirects_jumping⟩,
    inv_start, tick_start, by unfold HaltInWriteback; decide, not_redirects_of (by decide)⟩

theorem witness_StagesPrimeInOrder : Inv start ∧ TickTo start (after start) := ⟨inv_start, tick_start⟩

theorem witness_MulTakesTwoExecuteTicks :
    (Inv multiplying ∧ TickTo multiplying (after multiplying) ∧ multiplying.latchX.instr.op = .mul ∧
      (∀ p, ¬ Redirects multiplying p) ∧ multiplying.latchX.stalled = false ∧ multiplying.latchD.instr.op ≠ .nop) ∧
      (Inv multiplied ∧ TickTo multiplied (after multiplied) ∧ multiplied.latchX.instr.op = .mul ∧
        (∀ p, ¬ Redirects multiplied p) ∧ multiplied.latchX.stalled = true) :=
  ⟨⟨inv_multiplying, tick_multiplying, by decide, not_redirects_of (by decide), by decide, by decide⟩,
    inv_multiplied, tick_multiplied, by decide, not_redirects_of (by decide), by decide⟩

theorem witness_BadAccessFaults :
    Ticking loadingOutside ∧ ¬ HaltInWriteback loadingOutside ∧ BadAccess loadingOutside :=
  ⟨⟨rfl, by decide, by decide⟩, by unfold HaltInWriteback; decide, by unfold BadAccess; decide⟩

/-- A fault of each kind: a bad access, and the two fetch faults (V72, V73: the JUMP's target 4002, then 0). -/
theorem witness_OnlyTheseFaults :
    (Inv loadingOutside ∧ PcOk loadingOutside ∧ Ticking loadingOutside ∧
      step loadingOutside = .fault (.dataAddressOutOfRange 4004 4096)) ∧
      (Inv (jumpingTo 4002) ∧ PcOk (jumpingTo 4002) ∧ Ticking (jumpingTo 4002) ∧
        step (jumpingTo 4002) = .fault (.fetchMisaligned 4002)) ∧
      (Inv (jumpingTo 0) ∧ PcOk (jumpingTo 0) ∧ Ticking (jumpingTo 0) ∧
        step (jumpingTo 0) = .fault (.fetchOutOfRange 0)) :=
  ⟨⟨inv_loadingOutside, by unfold PcOk; decide, ⟨rfl, by decide, by decide⟩, fault_of (by decide)⟩,
    ⟨inv_jumpingTo (.inr (.inl rfl)), by unfold PcOk; decide, ⟨rfl, by decide, by decide⟩, fault_of (by decide)⟩,
    inv_jumpingTo (.inr (.inr rfl)), by unfold PcOk; decide, ⟨rfl, by decide, by decide⟩, fault_of (by decide)⟩

theorem witness_NoRefusalAfterLaunch : start.status ≠ .launching := by decide

theorem witness_ReportAfterFault :
    loadingOutside.status = .running ∧ step loadingOutside = .fault (.dataAddressOutOfRange 4004 4096) ∧
      step (supplied (launching [.packed 0x00000000E0000000])) = .fault (.illegalEncoding 0 0x00000000E0000000) :=
  ⟨rfl, fault_of (by decide), fault_of (by decide)⟩

theorem witness_StepKeepsInvariant : Inv jumping ∧ step jumping = .next (after jumping) :=
  ⟨inv_jumping, tick_jumping.answers⟩

theorem witness_StepKeepsMemoryForm : MemoryOk storing ∧ step storing = .next (after storing) :=
  ⟨by unfold MemoryOk; decide, tick_storing.answers⟩

theorem witness_StepKeepsCounterBounds : CountersOk start ∧ step start = .next (after start) :=
  ⟨by unfold CountersOk; decide, tick_start.answers⟩

theorem witness_StepKeepsPcOnGrid : Inv jumping ∧ PcOk jumping ∧ step jumping = .next (after jumping) :=
  ⟨inv_jumping, by unfold PcOk; decide, tick_jumping.answers⟩

theorem witness_MemoryIsItsReads :
    Memory.wf [(0, 7), (4095, 1)] = true ∧ Memory.wf [(1, 0)] = false ∧ Memory.wf [(2, 1), (2, 1)] = false := by decide

/-- Two forwarding tables of one state, which differ where no producer has published. -/
theorem witness_ForwardingTableIsNotObservable : Inv start ∧ Inv { start with fwd := Vector.replicate 32 7 } :=
  ⟨inv_start,
    ⟨by decide, by decide, rfl⟩, rfl, by unfold BusyChain; decide, by unfold FetchHolds; decide,
      by unfold StalledStages; decide, by unfold HaltPhase; decide, by unfold SingleWriter; decide,
      by unfold ForwardsResults; decide, storeValueReady_of (by decide)⟩

theorem witness_TakenTransferFlushes :
    Inv jumping ∧ TickTo jumping (after jumping) ∧ ¬ HaltInWriteback jumping ∧ Redirects jumping 4004 :=
  witness_PcMoves.2.1

theorem witness_HaltEndsTheRun : Inv halting ∧ Ticking halting ∧ HaltInWriteback halting :=
  ⟨inv_halting, tick_halting.ticking, witness_PcMoves.1.2.2⟩

theorem witness_PipelineRefinesSequential : Inv multiplied ∧ TickTo multiplied (after multiplied) :=
  ⟨inv_multiplied, tick_multiplied⟩

/-- A one-record program at reset: the record is the last slot, and nothing is in flight. -/
theorem witness_LoneInstructionCompletes :
    let s : State := { State.reset with imem := [.packed 0x0000000011844000] }
    s.status = .running ∧ Quiet s ∧ fetchAt s s.pc = .ok (.add 3 1 2 0) ∧
      s.pc.toInt + s.params.insnWidth = endPc s ∧ 5 ≤ s.params.drainMargin ∧ s.cyc + 5 ≤ s.config.cycleBudget ∧
      (seqExec s (.add 3 1 2 0) s.pc (committed s)).arch.status = .going :=
  ⟨rfl, ⟨by unfold Latch.idle; decide, by unfold Latch.idle; decide, by unfold Latch.idle; decide,
    by unfold Latch.idle; decide, rfl⟩, ok_of (by decide), by decide, by decide, by decide, by decide⟩

theorem inv_lone : Inv { State.reset with imem := [.packed 0x0000000011844000] } :=
  ⟨⟨by decide, by decide, rfl⟩, rfl, by unfold BusyChain; decide, by unfold FetchHolds; decide,
    by unfold StalledStages; decide, by unfold HaltPhase; decide, by unfold SingleWriter; decide,
    by unfold ForwardsResults; decide, storeValueReady_of (by decide)⟩

/-- The state after `n` steps (the state itself if the run stops in a fault or a refusal). -/
def afterRun (n : Nat) (s : State) : State := (got (Sys2Proof.core.run n s)).getD s

theorem run_afterRun {n : Nat} {s : State} (h : (got (Sys2Proof.core.run n s)).isSome = true) :
    Sys2Proof.core.run n s = .next (afterRun n s) := by
  unfold afterRun
  revert h
  cases Sys2Proof.core.run n s with
  | next t => exact fun _ => rfl
  | fault f => exact fun h => nomatch h
  | refused r => exact fun h => nomatch h

/-- V80, `MOVC R1,#1; ADD R2,R1,R1; HALT`, in either mode. -/
def forwarding (b : Bool) : LaunchInputs :=
  { launching [.packed 0x0000000190800000, .packed 0x0000000011042000, .packed 0x00000000D0000000] with
    config := { Config.reference with forwarding := b } }

/-- V80: both runs stop with Completed, after the launch, 7 ticks with forwarding and 9 without, and the stop test. -/
theorem witness_ForwardingEquivalence :
    5 ≤ (forwarding true).params.drainMargin ∧ (∃ s, StopsIn (supplied (forwarding true)) 9 .completed s) ∧
      ∃ t, StopsIn (supplied (forwarding false)) 11 .completed t :=
  ⟨by decide, ⟨_, run_afterRun (by decide), by decide⟩, _, run_afterRun (by decide), by decide⟩

end Sys2Proof.Tests
end

section
/-! PROOFS. The scope rules (00_scope.md): no step changes what the host supplied (R15, R61, R73), and what the launch's
parameter check guards against (R13). -/

namespace Sys2Proof.Machine

/-! ### What a step of each status does -/

theorem step_launching {s : State} (h : s.status = .launching) : step s = launch s := by simp [step, driver, h]
theorem step_running {s : State} (h : s.status = .running) : step s = runLoop s := by simp [step, driver, h]
theorem step_completed {s : State} (h : s.status = .completed) : step s = .next s := by simp [step, driver, h]
theorem step_budgetExhausted {s : State} (h : s.status = .budgetExhausted) : step s = .next s := by
  simp [step, driver, h]

/-- A launch that goes on has passed its three checks and resets (R188, R200). -/
theorem launch_eq_next {s t : State} :
    launch s = .next t ↔ ParamsOk s ∧ firstFault 0 s.imem = none ∧ t = restart s := by
  unfold launch ParamsOk
  by_cases hp : s.params.Ok s.progLen
  · rw [if_neg (not_not_intro hp), and_iff_right hp]
    by_cases hw : s.params.dmemWords < s.params.reportWindow
    · simp [hw, Nat.not_le.2 hw]
    · cases firstFault 0 s.imem <;> simp [hw, Nat.not_lt.1 hw, raise, eq_comm]
  · rw [if_pos hp]
    exact ⟨nofun, fun h => absurd h.1.1 hp⟩

/-- A loop turn that goes on is one of the two stops or a tick (R128). -/
theorem runLoop_eq_next {s t : State} :
    runLoop s = .next t ↔
      (termPc s ≤ s.pc.toInt ∧ t = { s with status := .completed }) ∨
        (s.pc.toInt < termPc s ∧ s.config.cycleBudget ≤ s.cyc ∧ t = { s with status := .budgetExhausted }) ∨
        (s.pc.toInt < termPc s ∧ s.cyc < s.config.cycleBudget ∧ tick s = .next t) := by
  unfold runLoop
  split_ifs with hend hbudget
  · simp [hend, Int.not_lt.2 hend, eq_comm]
  · simp [hend, hbudget, Int.not_le.1 hend, Nat.not_lt.2 hbudget, eq_comm]
  · simp [hend, hbudget, Int.not_le.1 hend, Nat.not_le.1 hbudget]

/-! ### The launch inputs that a run only reads -/

/-- `t` has the parameters, the configuration and the instruction memory of `s` (R15, R61). -/
structure KeepsInputs (s t : State) : Prop where
  params : t.params = s.params
  config : t.config = s.config
  imem : t.imem = s.imem

namespace KeepsInputs

theorem refl (s : State) : KeepsInputs s s := ⟨rfl, rfl, rfl⟩

theorem trans {s t u : State} (h : KeepsInputs s t) (h' : KeepsInputs t u) : KeepsInputs s u :=
  ⟨h'.params.trans h.params, h'.config.trans h.config, h'.imem.trans h.imem⟩

/-- A stage's turn that answers `next u` keeps the inputs when `u` does. -/
theorem of_next {o : Result} {s t u : State} (e : o = .next u) (hu : KeepsInputs s u) (h : o = .next t) :
    KeepsInputs s t :=
  Host.Outcome.next.inj (e.symm.trans h) ▸ hu

end KeepsInputs

theorem memoryRedirect_keepsInputs (s : State) (p : Word) : KeepsInputs s (memoryRedirect s p) := by
  constructor <;> simp only [memoryRedirect] <;> split <;> simp

theorem forwardDecode_keepsInputs (a b : Word) (d : Option Reg) (s : State) :
    KeepsInputs s { forwardDecode a b d s with turn := .decode } := by
  constructor <;> simp

section
variable {s t : State}

theorem writebackStage_keepsInputs (h : writebackStage s = .next t) : KeepsInputs s t :=
  .of_next (writebackStage_eq s) ⟨rfl, rfl, rfl⟩ h

theorem memoryStage_keepsInputs (h : memoryStage s = .next t) : KeepsInputs s t := by
  rcases memoryStage_cases s with
    ⟨-, idle⟩ | ⟨-, -, ⟨-, -, fault⟩ | ⟨p, -, redirect⟩ | ⟨-, halt⟩ | ⟨-, -, -, plain⟩⟩
  · exact .of_next idle ⟨rfl, rfl, rfl⟩ h
  · simp [fault] at h
  · exact .of_next redirect (memoryRedirect_keepsInputs s p) h
  · exact .of_next halt ⟨rfl, rfl, rfl⟩ h
  · exact .of_next plain ⟨rfl, rfl, rfl⟩ h

theorem executeStage_keepsInputs (h : executeStage s = .next t) : KeepsInputs s t := by
  rcases executeStage_cases s with ⟨-, idle⟩ | ⟨-, -, ⟨-, -, hold⟩ | ⟨-, halt⟩ | ⟨-, -, plain⟩⟩
  · exact .of_next idle ⟨rfl, rfl, rfl⟩ h
  · exact .of_next hold ⟨rfl, rfl, rfl⟩ h
  · exact .of_next halt ⟨rfl, rfl, rfl⟩ h
  · exact .of_next plain ⟨rfl, rfl, rfl⟩ h

theorem decodeStage_keepsInputs (h : decodeStage s = .next t) : KeepsInputs s t := by
  rcases decodeStage_cases s with
    ⟨-, idle⟩ | ⟨-, -, ⟨-, -, lost⟩ | ⟨-, -, copy⟩ | ⟨-, -, wait⟩ | ⟨-, -, stall⟩ | ⟨-, -, a, b, -, forward⟩⟩
  · exact .of_next idle ⟨rfl, rfl, rfl⟩ h
  · exact .of_next lost ⟨rfl, rfl, rfl⟩ h
  · exact .of_next copy ⟨rfl, rfl, rfl⟩ h
  · exact .of_next wait ⟨rfl, rfl, rfl⟩ h
  · exact .of_next stall ⟨rfl, rfl, rfl⟩ h
  · exact .of_next forward (forwardDecode_keepsInputs a b _ s) h

theorem fetchStage_keepsInputs (h : fetchStage s = .next t) : KeepsInputs s t := by
  rcases fetchStage_cases s with
    ⟨-, idle⟩ | ⟨-, ⟨-, -, hold⟩ | ⟨-, -, release⟩ | ⟨-, _, -, fault⟩ | ⟨-, _, -, ⟨-, held⟩ | ⟨-, pushed⟩⟩⟩
  · exact .of_next idle ⟨rfl, rfl, rfl⟩ h
  · exact .of_next hold ⟨rfl, rfl, rfl⟩ h
  · exact .of_next release ⟨rfl, rfl, rfl⟩ h
  · simp [fault] at h
  · exact .of_next held ⟨rfl, rfl, rfl⟩ h
  · exact .of_next pushed ⟨rfl, rfl, rfl⟩ h

theorem tick_keepsInputs (h : tick s = .next t) : KeepsInputs s t := by
  obtain ⟨a, b, c, d, e, hw, hm, hx, hd, hf, rfl⟩ := tick_eq_next.1 h
  have hstages : KeepsInputs s e :=
    (writebackStage_keepsInputs hw).trans <| (memoryStage_keepsInputs hm).trans <|
      (executeStage_keepsInputs hx).trans <| (decodeStage_keepsInputs hd).trans (fetchStage_keepsInputs hf)
  exact hstages.trans ⟨rfl, rfl, rfl⟩

theorem launch_keepsInputs (h : launch s = .next t) : KeepsInputs s t := by
  obtain ⟨-, -, rfl⟩ := launch_eq_next.1 h
  exact ⟨rfl, rfl, rfl⟩

theorem runLoop_keepsInputs (h : runLoop s = .next t) : KeepsInputs s t := by
  rcases runLoop_eq_next.1 h with ⟨-, rfl⟩ | ⟨-, -, rfl⟩ | ⟨-, -, ticked⟩
  · exact ⟨rfl, rfl, rfl⟩
  · exact ⟨rfl, rfl, rfl⟩
  · exact tick_keepsInputs ticked

theorem step_keepsInputs (h : step s = .next t) : KeepsInputs s t := by
  cases hs : s.status with
  | launching => exact launch_keepsInputs (step_launching hs ▸ h)
  | running => exact runLoop_keepsInputs (step_running hs ▸ h)
  | completed => exact .of_next (step_completed hs) (.refl s) h
  | budgetExhausted => exact .of_next (step_budgetExhausted hs) (.refl s) h

end

/-- Settles O34: each stage of a tick, the launch and the stop tests keep the launch inputs. -/
theorem stepKeepsLaunchInputs : Obligations.StepKeepsLaunchInputs := by
  intro s t h
  have kept := step_keepsInputs h
  exact ⟨kept.params, kept.config, kept.imem⟩

/-! ### The parameter check -/

theorem launch_of_not_ok {s : State} (h : ¬ s.params.Ok s.progLen) : launch s = .refused .parameterConstraint :=
  if_pos h

/-- R16: `wrap32` leaves a value of the signed 32-bit range as it is. -/
theorem wrap32_toInt {v : Int} (lo : -2 ^ 31 ≤ v) (hi : v < 2 ^ 31) : (wrap32 v).toInt = v :=
  BitVec.toInt_ofInt_eq_self (by decide) lo hi

/-- R13: under the constraints a PC below TERM_PC has room for one more slot. -/
theorem wrap32_add_insnWidth_of_ok {p : Params} {n : Nat} (hp : p.Ok n) {pc : Word} (hpc : pc.toInt < p.termPc n) :
    (wrap32 (pc.toInt + p.insnWidth)).toInt = pc.toInt + p.insnWidth := by
  obtain ⟨-, -, -, -, hterm⟩ := hp
  have hlo : -2 ^ 31 ≤ pc.toInt := BitVec.le_toInt pc
  exact wrap32_toInt (by omega) (by omega)

/-- Settles O8: the constraints are those of the launch's first check, and they bound TERM_PC + INSN_WIDTH by 2^31. -/
theorem launchRefusesBadParameters : Obligations.LaunchRefusesBadParameters := by
  intro s p term constraints
  refine ⟨fun hs hbad => ?_, fun hok pc hpc => wrap32_add_insnWidth_of_ok (n := s.imem.length) hok hpc⟩
  exact (step_launching hs).trans (launch_of_not_ok hbad)

end Sys2Proof.Machine
end

section
/-! PROOFS. The machine's state (10_state.md): the pipeline invariant that every step keeps (R33, R130, R131, R161,
R173), and what a tick does to each element (R32, R36 to R39, R46, R48). -/

namespace Sys2Proof.Machine

/-! ### The turns of a tick that goes on

Each stage's turn that answers a next state, as one constructor per way the turn can go. -/

/-- R126: how a turn of Memory goes on. -/
inductive MemoryStep (s : State) : State → Prop
  | idle (h : s.latchM.busy = true ∨ s.latchM.stalled = true) : MemoryStep s { s with turn := .memory }
  | redirect (p : Word) (live : s.latchM.live) (hp : redirectTarget s = some p) : MemoryStep s (memoryRedirect s p)
  | halt (live : s.latchM.live) (hi : s.latchM.instr.op = .halt) : MemoryStep s (memoryHalt s)
  | plain (live : s.latchM.live) (hp : redirectTarget s = none) (hi : s.latchM.instr.op ≠ .halt) :
      MemoryStep s (memoryPlain s)

/-- R124: how a turn of Execute goes on. -/
inductive ExecuteStep (s : State) : State → Prop
  | idle (h : s.latchX.busy = true ∨ s.latchX.frozen = true) : ExecuteStep s { s with turn := .execute }
  | hold (hb : s.latchX.busy = false) (hi : s.latchX.instr.op = .mul) (hs : s.latchX.stalled = false) :
      ExecuteStep s (executeMulHold s)
  | halt (hb : s.latchX.busy = false) (hf : s.latchX.frozen = false) (hi : s.latchX.instr.op = .halt) :
      ExecuteStep s (executeHalt s)
  | plain (hb : s.latchX.busy = false) (hf : s.latchX.frozen = false) (hi : s.latchX.instr.op ≠ .halt)
      (hmul : s.latchX.instr.op = .mul → s.latchX.stalled = true) : ExecuteStep s (executePlain s)

/-- R120, R122: how a turn of Decode goes on. -/
inductive DecodeStep (s : State) : State → Prop
  | idle (h : s.latchD.busy = true ∨ s.latchD.frozen = true) : DecodeStep s { s with turn := .decode }
  | lost (hx : s.latchX.stalled = true) : DecodeStep s { s with turn := .decode }
  | copy (hb : s.latchD.busy = false) (hf : s.latchD.frozen = false) (hi : s.latchD.instr.op = .nop)
      (hx : s.latchX.stalled = false) : DecodeStep s { s with turn := .decode, latchX := s.latchD }
  | wait (hb : s.latchD.busy = false) (hi : s.latchD.instr.op ≠ .nop) (hx : s.latchX.stalled = true) :
      DecodeStep s { s with turn := .decode, latchD := { s.latchD with stalled := true } }
  | stall (hb : s.latchD.busy = false) (hi : s.latchD.instr.op ≠ .nop) (hx : s.latchX.stalled = false) :
      DecodeStep s { stallDecode s with turn := .decode }
  | forward (a b : Word) (hb : s.latchD.busy = false) (hi : s.latchD.instr.op ≠ .nop) (hx : s.latchX.stalled = false)
      (ready : Ready s a b) : DecodeStep s { forwardDecode a b (destOf s.latchD.instr) s with turn := .decode }

/-- R118: how a turn of Fetch goes on. -/
inductive FetchStep (s : State) : State → Prop
  | unprimed (hb : s.latchF.busy = true) : FetchStep s { s with turn := .fetch }
  | hold (hf : s.latchF.stalled = true) (hd : s.latchD.stalled = true) : FetchStep s { s with turn := .fetch }
  | release (hb : s.latchF.busy = false) (hf : s.latchF.stalled = true) (hd : s.latchD.stalled = false) :
      FetchStep s
        { s with
          turn := .fetch, latchF := { s.latchF with stalled := false }, latchD := { s.latchF with stalled := false } }
  | held (i : Instr) (hf : s.latchF.stalled = false) (hd : s.latchD.stalled = true) (hi : fetchAt s s.pc = .ok i) :
      FetchStep s { s with turn := .fetch, latchF := { fetchedLatch s i with stalled := true }, pc := nextPc s }
  | push (i : Instr) (hf : s.latchF.stalled = false) (hd : s.latchD.stalled = false) (hi : fetchAt s s.pc = .ok i) :
      FetchStep s { s with turn := .fetch, latchF := fetchedLatch s i, latchD := fetchedLatch s i, pc := nextPc s }

section
variable {s t : State}

theorem memoryStage_step (h : memoryStage s = .next t) : MemoryStep s t := by
  rcases memoryStage_cases s with
    ⟨hi, e⟩ | ⟨hb, hs, ⟨-, -, e⟩ | ⟨p, hp, e⟩ | ⟨hi, e⟩ | ⟨hp, hi, -, e⟩⟩ <;> cases e.symm.trans h
  · exact .idle hi
  · exact .redirect p ⟨hb, hs⟩ hp
  · exact .halt ⟨hb, hs⟩ hi
  · exact .plain ⟨hb, hs⟩ hp hi

theorem executeStage_step (h : executeStage s = .next t) : ExecuteStep s t := by
  rcases executeStage_cases s with ⟨hi, e⟩ | ⟨hb, hf, ⟨hi, hs, e⟩ | ⟨hi, e⟩ | ⟨hi, hmul, e⟩⟩ <;> cases e.symm.trans h
  · exact .idle hi
  · exact .hold hb hi hs
  · exact .halt hb hf hi
  · exact .plain hb hf hi hmul

theorem decodeStage_step (h : decodeStage s = .next t) : DecodeStep s t := by
  rcases decodeStage_cases s with
    ⟨hi, e⟩ | ⟨hb, hf, ⟨-, hx, e⟩ | ⟨hi, hx, e⟩ | ⟨hi, hx, e⟩ | ⟨hi, hx, e⟩ | ⟨hi, hx, a, b, ready, e⟩⟩ <;>
    cases e.symm.trans h
  · exact .idle hi
  · exact .lost hx
  · exact .copy hb hf hi hx
  · exact .wait hb hi hx
  · exact .stall hb hi hx
  · exact .forward a b hb hi hx ready

theorem fetchStage_step (h : fetchStage s = .next t) : FetchStep s t := by
  rcases fetchStage_cases s with
    ⟨hb, e⟩ | ⟨hb, ⟨hf, hd, e⟩ | ⟨hf, hd, e⟩ | ⟨-, _, -, e⟩ | ⟨hf, i, hi, ⟨hd, e⟩ | ⟨hd, e⟩⟩⟩ <;> cases e.symm.trans h
  · exact .unprimed hb
  · exact .hold hf hd
  · exact .release hb hf hd
  · exact .held i hf hd hi
  · exact .push i hf hd hi

/-- R101: a tick that goes on is Writeback's effect, then a step of each younger stage, then the count. -/
theorem tick_steps (h : tick s = .next t) :
    ∃ b c d e, MemoryStep (writebackResult s) b ∧ ExecuteStep b c ∧ DecodeStep c d ∧ FetchStep d e ∧
      t = { e with cyc := e.cyc + 1 } := by
  obtain ⟨a, b, c, d, e, hw, hm, hx, hd, hf, rfl⟩ := tick_eq_next.1 h
  cases (writebackStage_eq s).symm.trans hw
  exact ⟨b, c, d, e, memoryStage_step hm, executeStage_step hx, decodeStage_step hd, fetchStage_step hf, rfl⟩

end

/-! ### The latches after the Memory and Execute actions -/

section
variable (s : State)

@[simp] theorem loadedLatch_instr : (loadedLatch s).instr = s.latchM.instr := by unfold loadedLatch; split <;> rfl
@[simp] theorem loadedLatch_busy : (loadedLatch s).busy = s.latchM.busy := by unfold loadedLatch; split <;> rfl
@[simp] theorem loadedLatch_stalled : (loadedLatch s).stalled = s.latchM.stalled := by
  unfold loadedLatch; split <;> rfl

/-- Memory changes a bubble in M in nothing. -/
theorem loadedLatch_of_bubble (h : s.latchM = Latch.bubble) : loadedLatch s = Latch.bubble := by
  simp [loadedLatch, h, Latch.bubble]

@[simp] theorem memoryRedirect_latchF (p : Word) : (memoryRedirect s p).latchF = Latch.bubble := rfl
@[simp] theorem memoryRedirect_latchD (p : Word) : (memoryRedirect s p).latchD = Latch.bubble := rfl
@[simp] theorem memoryRedirect_latchX (p : Word) : (memoryRedirect s p).latchX = Latch.bubble := rfl
@[simp] theorem memoryRedirect_latchM (p : Word) : (memoryRedirect s p).latchM = s.latchM := by
  simp only [memoryRedirect, flushYounger_latchM, release_latchM]; split <;> simp
@[simp] theorem memoryRedirect_latchW (p : Word) : (memoryRedirect s p).latchW = s.latchM := rfl
@[simp] theorem memoryRedirect_pc (p : Word) : (memoryRedirect s p).pc = p := rfl

theorem writebackResult_latchM_of_not_halt (h : ¬ HaltInWriteback s) : (writebackResult s).latchM = s.latchM := if_neg h
theorem writebackResult_latchM_of_halt (h : HaltInWriteback s) : (writebackResult s).latchM = frozenBubble := if_pos h
theorem writebackResult_pc_of_not_halt (h : ¬ HaltInWriteback s) : (writebackResult s).pc = s.pc := if_neg h
theorem writebackResult_pc_of_halt (h : HaltInWriteback s) : (writebackResult s).pc = wrap32 (termPc s) := if_pos h

end

/-! ### The shape of the pipeline -/

/-- The part of the invariant that every stage keeps by itself, not only a whole tick. -/
structure Shape (s : State) : Prop where
  busyChain : BusyChain s
  stalledStages : StalledStages s
  haltPhase : HaltPhase s

@[simp] theorem bubble_busy : Latch.bubble.busy = false := rfl
@[simp] theorem bubble_stalled : Latch.bubble.stalled = false := rfl
@[simp] theorem bubble_op : Latch.bubble.instr.op = .nop := rfl
@[simp] theorem frozenBubble_busy : frozenBubble.busy = false := rfl
@[simp] theorem frozenBubble_stalled : frozenBubble.stalled = true := rfl
@[simp] theorem frozenBubble_op : frozenBubble.instr.op = .nop := rfl
@[simp] theorem unprimed_busy : Latch.unprimed.busy = true := rfl
@[simp] theorem unprimed_stalled : Latch.unprimed.stalled = false := rfl
@[simp] theorem unprimed_op : Latch.unprimed.instr.op = .nop := rfl

@[simp] theorem frozenBubble_frozen : frozenBubble.frozen = true := rfl

theorem not_frozen_iff (l : Latch) : l.frozen = false ↔ (l.stalled = true → l.instr.op ≠ .nop) := by
  simp [Latch.frozen]

theorem ne_frozenBubble_of_stalled {l : Latch} (h : l.stalled = false) : l ≠ frozenBubble := by
  rintro rfl; simp at h

theorem ne_frozenBubble_of_op {l : Latch} (h : l.instr.op ≠ .nop) : l ≠ frozenBubble := by
  rintro rfl; simp at h

section
variable {s t : State}

theorem BusyChain.of_latchD_busy (h : BusyChain s) (hb : s.latchD.busy = true) : s.latchX.busy = true := (h.2.1 hb).2

theorem BusyChain.of_latchX_busy (h : BusyChain s) (hb : s.latchX.busy = true) :
    s.latchX = Latch.unprimed ∧ s.latchM.busy = true := h.2.2.1 hb

theorem BusyChain.of_latchM_busy (h : BusyChain s) (hb : s.latchM.busy = true) :
    s.latchM = Latch.unprimed ∧ s.latchW.busy = true := h.2.2.2.1 hb

theorem StalledStages.of_latchX_stalled (h : StalledStages s) (hs : s.latchX.stalled = true) :
    s.latchX = frozenBubble ∨ s.latchX.instr.op = .mul := (h.1 hs).imp_right And.left

theorem StalledStages.of_latchM_stalled (h : StalledStages s) (hs : s.latchM.stalled = true) :
    s.latchM = frozenBubble := h.2.1 hs

theorem busyChain_writeback (h : BusyChain s) : BusyChain (writebackResult s) := by
  obtain ⟨hF, hD, hX, hM, hW⟩ := h
  by_cases hh : HaltInWriteback s
  · have hWb : s.latchW.busy = false := hh.1
    rw [BusyChain, writebackResult_latchM_of_halt s hh]
    simp_all [writebackResult]
  · rw [BusyChain, writebackResult_latchM_of_not_halt s hh]
    exact ⟨hF, hD, hX, hM, hW⟩

theorem busyChain_memory (h : MemoryStep s t) (hc : BusyChain s) : BusyChain t := by
  obtain ⟨hF, hD, hX, hM, hW⟩ := hc
  cases h with
  | idle => exact ⟨hF, hD, hX, hM, hW⟩
  | redirect p live => simp_all [BusyChain]
  | halt live => simp_all [BusyChain, memoryHalt]
  | plain live => simp_all [BusyChain, memoryPlain]

theorem busyChain_execute (h : ExecuteStep s t) (hc : BusyChain s) : BusyChain t := by
  obtain ⟨hF, hD, hX, hM, hW⟩ := hc
  cases h with
  | idle => exact ⟨hF, hD, hX, hM, hW⟩
  | hold hb => simp_all [BusyChain, executeMulHold]
  | halt hb => simp_all [BusyChain, executeHalt]
  | plain hb => simp_all [BusyChain, executePlain, executedLatch]

theorem busyChain_decode (h : DecodeStep s t) (hc : BusyChain s) : BusyChain t := by
  obtain ⟨hF, hD, hX, hM, hW⟩ := hc
  cases h with
  | idle => exact ⟨hF, hD, hX, hM, hW⟩
  | lost => exact ⟨hF, hD, hX, hM, hW⟩
  | copy hb => simp_all [BusyChain]
  | wait hb => simp_all [BusyChain]
  | stall hb => simp_all [BusyChain]
  | forward a b hb => simp_all [BusyChain]

theorem busyChain_fetch (h : FetchStep s t) (hc : BusyChain s) : BusyChain t := by
  obtain ⟨hF, hD, hX, hM, hW⟩ := hc
  cases h with
  | unprimed => exact ⟨hF, hD, hX, hM, hW⟩
  | hold => exact ⟨hF, hD, hX, hM, hW⟩
  | release => simp_all [BusyChain]
  | held => simp_all [BusyChain, fetchedLatch]
  | push => simp_all [BusyChain, fetchedLatch]

theorem haltPhase_writeback (h : HaltPhase s) : HaltPhase (writebackResult s) := by
  rcases h with ⟨hD, hX, hM, hMi, hWi⟩ | ⟨hF, hD, ⟨hX, hXs, hM, hWi⟩ | ⟨hX, hM, hMs, hW⟩ | ⟨hX, hM, hWi, hpc⟩⟩
  · simp_all [HaltPhase, writebackResult]
  · simp_all [HaltPhase, writebackResult]
  · by_cases hb : s.latchW.busy = false
    · refine .inr ⟨hF, hD, .inr (.inr ?_)⟩
      simp_all [writebackResult, termPc, State.progLen]
    · simp_all [HaltPhase, writebackResult]
  · refine .inr ⟨hF, hD, .inr (.inr ?_)⟩
    simp_all [writebackResult, termPc, State.progLen]

/-- Only a branch or a JUMP transfers control. -/
theorem op_ne_halt_of_redirectTarget {p : Word} (h : redirectTarget s = some p) : s.latchM.instr.op ≠ .halt := by
  unfold redirectTarget at h
  split at h <;> simp_all [Instr.op, Instr.toRecord]

theorem haltPhase_memory (h : MemoryStep s t) (hp : HaltPhase s) : HaltPhase t := by
  cases h with
  | idle => exact hp
  | redirect p live hr =>
    exact .inl ⟨rfl, by simp [Latch.bubble, frozenBubble], by simpa using live.2,
      by simpa using op_ne_halt_of_redirectTarget hr, op_ne_halt_of_redirectTarget hr⟩
  | halt live hi =>
    rcases hp with ⟨-, -, -, hMi, -⟩ | ⟨hF, hD, -⟩
    · exact absurd hi hMi
    · exact .inr ⟨hF, hD, .inr (.inl ⟨rfl, hi, live.2, rfl⟩)⟩
  | plain live hr hi =>
    rcases hp with ⟨hD, hX, hM, hMi, hWi⟩ | ⟨-, -, ⟨hX, -, hM, -⟩ | ⟨-, hM, -⟩ | ⟨-, hM, -⟩⟩
    · have hi' : (loadedLatch s).instr.op ≠ .halt := by simpa using hi
      exact .inl ⟨hD, hX, by simpa [memoryPlain] using hM, hi', hi'⟩
    · exact absurd (hM ▸ hX) hi
    · exact absurd hM hi
    · exact absurd live.2 (by simp [hM])

/-- R124: in a turn of Execute that is not idle, only a MUL can be stalled. -/
theorem StalledStages.latchX_stalled (h : StalledStages s) (hf : s.latchX.frozen = false)
    (hi : s.latchX.instr.op ≠ .mul) : s.latchX.stalled = false := by
  by_contra hs
  rcases h.of_latchX_stalled (by simpa using hs) with e | e
  · simp [e] at hf
  · exact hi e

theorem StalledStages.executedLatch_stalled (h : StalledStages s) (hf : s.latchX.frozen = false) :
    (executedLatch s).stalled = false :=
  ite_eq_left_iff.2 (h.latchX_stalled hf)

theorem haltPhase_execute (h : ExecuteStep s t) (hst : StalledStages s) (hp : HaltPhase s) : HaltPhase t := by
  cases h with
  | idle => exact hp
  | hold hb hi hs =>
    rcases hp with ⟨hD, -, -, -, hWi⟩ | ⟨-, -, ⟨hX, -⟩ | ⟨hX, -⟩ | ⟨hX, -⟩⟩
    · have hX : (executeMulHold s).latchX ≠ frozenBubble := ne_frozenBubble_of_op (by simp [executeMulHold, hi])
      exact .inl ⟨hD, hX, rfl, nofun, hWi⟩
    all_goals simp [hX] at hi
  | halt hb hf hi =>
    have hs : s.latchX.stalled = false := hst.latchX_stalled hf (by simp [hi])
    rcases hp with ⟨-, -, -, -, hWi⟩ | ⟨-, -, ⟨-, -, -, hWi⟩ | ⟨hX, -⟩ | ⟨hX, -⟩⟩
    · exact .inr ⟨rfl, rfl, .inl ⟨hi, hs, rfl, hWi⟩⟩
    · exact .inr ⟨rfl, rfl, .inl ⟨hi, hs, rfl, hWi⟩⟩
    all_goals simp [hX] at hi
  | plain hb hf hi =>
    have hs := hst.executedLatch_stalled hf
    rcases hp with ⟨hD, -, -, -, hWi⟩ | ⟨-, -, ⟨hX, -⟩ | ⟨hX, -⟩ | ⟨hX, -⟩⟩
    · exact .inl ⟨hD, ne_frozenBubble_of_stalled hs, hs, hi, hWi⟩
    · exact absurd hX hi
    all_goals simp [hX] at hf

/-- Before a HALT has been in Execute, D is not frozen. -/
theorem HaltPhase.of_not_frozen (h : HaltPhase s) (hD : s.latchD.frozen = false) :
    s.latchX ≠ frozenBubble ∧ s.latchM.stalled = false ∧ s.latchM.instr.op ≠ .halt ∧ s.latchW.instr.op ≠ .halt := by
  rcases h with ⟨-, h⟩ | ⟨-, hD', -⟩
  · exact h
  · simp [hD'] at hD

theorem haltPhase_decode (h : DecodeStep s t) (hp : HaltPhase s) : HaltPhase t := by
  cases h with
  | idle => exact hp
  | lost => exact hp
  | copy hb hf hi hx =>
    obtain ⟨hX, h⟩ := hp.of_not_frozen hf
    exact .inl ⟨hf, fun (e : s.latchD = _) => by simp [e] at hf, h⟩
  | wait hb hi hx =>
    obtain ⟨hX, h⟩ := hp.of_not_frozen ((not_frozen_iff _).2 fun _ => hi)
    exact .inl ⟨(not_frozen_iff _).2 fun _ => hi, hX, h⟩
  | stall hb hi hx =>
    obtain ⟨hX, h⟩ := hp.of_not_frozen ((not_frozen_iff _).2 fun _ => hi)
    exact .inl ⟨(not_frozen_iff _).2 fun _ => hi, by simp [Latch.bubble, frozenBubble], h⟩
  | forward a b hb hi hx ready =>
    obtain ⟨hX, h⟩ := hp.of_not_frozen ((not_frozen_iff _).2 fun _ => hi)
    refine .inl ⟨by simp [not_frozen_iff], ?_, by simpa using h⟩
    simp [frozenBubble]

theorem haltPhase_fetch (h : FetchStep s t) (hp : HaltPhase s) : HaltPhase t := by
  rcases hp with ⟨hD, hphase⟩ | ⟨hF, hD, hphase⟩
  · cases h with
    | unprimed => exact .inl ⟨hD, hphase⟩
    | hold => exact .inl ⟨hD, hphase⟩
    | release => exact .inl ⟨rfl, hphase⟩
    | held => exact .inl ⟨hD, hphase⟩
    | push => exact .inl ⟨rfl, hphase⟩
  · cases h with
    | unprimed => exact .inr ⟨hF, hD, hphase⟩
    | hold => exact .inr ⟨hF, hD, hphase⟩
    | release _ _ hd => simp [hD] at hd
    | held _ hf => simp [hF] at hf
    | push _ hf => simp [hF] at hf

theorem stalledStages_writeback (hst : StalledStages s) (hp : HaltPhase s) : StalledStages (writebackResult s) := by
  obtain ⟨hX, hM, hW⟩ := hst
  by_cases hh : HaltInWriteback s
  · have e := writebackResult_latchM_of_halt s hh
    refine ⟨fun _ => .inl ?_, fun _ => e, hW⟩
    rcases hp with ⟨-, -, -, -, hWi⟩ | ⟨-, -, ⟨-, -, -, hWi⟩ | ⟨hXf, -⟩ | ⟨hXf, -⟩⟩
    · exact absurd hh.2 hWi
    · exact absurd hh.2 hWi
    · exact hXf
    · exact hXf
  · rw [StalledStages, writebackResult_latchM_of_not_halt s hh]
    exact ⟨hX, hM, hW⟩

theorem stalledStages_memory (h : MemoryStep s t) (hst : StalledStages s) : StalledStages t := by
  obtain ⟨hX, hM, hW⟩ := hst
  cases h with
  | idle => exact ⟨hX, hM, hW⟩
  | redirect p live => exact ⟨nofun, by simpa using hM, live.2⟩
  | halt live => exact ⟨fun _ => .inl rfl, hM, live.2⟩
  | plain live =>
    obtain ⟨-, hs⟩ := live
    refine ⟨fun hx => (hX hx).imp_right fun ⟨hi, hb, hv⟩ => ⟨hi, loadedLatch_of_bubble s hb, hv⟩, ?_, ?_⟩ <;>
      simp [memoryPlain, hs]

theorem stalledStages_execute (h : ExecuteStep s t) (hst : StalledStages s) : StalledStages t := by
  obtain ⟨hX, hM, hW⟩ := hst
  cases h with
  | idle => exact ⟨hX, hM, hW⟩
  | hold hb hi hs => exact ⟨fun _ => .inr ⟨hi, rfl, rfl⟩, nofun, hW⟩
  | halt hb hf hi =>
    have hs : s.latchX.stalled = false := StalledStages.latchX_stalled ⟨hX, hM, hW⟩ hf (by simp [hi])
    exact ⟨by simp [executeHalt, hs], by simp [executeHalt, hs], hW⟩
  | plain hb hf =>
    have hs := StalledStages.executedLatch_stalled ⟨hX, hM, hW⟩ hf
    exact ⟨by simp [executePlain, hs], by simp [executePlain, hs], hW⟩

theorem stalledStages_decode (h : DecodeStep s t) (hst : StalledStages s) : StalledStages t := by
  obtain ⟨hX, hM, hW⟩ := hst
  cases h with
  | idle => exact ⟨hX, hM, hW⟩
  | lost => exact ⟨hX, hM, hW⟩
  | copy hb hf hi hx => exact ⟨fun hs => absurd hi ((not_frozen_iff _).1 hf hs), hM, hW⟩
  | wait => exact ⟨hX, hM, hW⟩
  | stall => exact ⟨nofun, hM, hW⟩
  | forward => exact ⟨by simp, by simpa using hM, by simpa using hW⟩

theorem stalledStages_fetch (h : FetchStep s t) (hst : StalledStages s) : StalledStages t := by
  cases h <;> exact hst

theorem Inv.shape (h : Inv s) : Shape s := ⟨h.busyChain, h.stalledStages, h.haltPhase⟩

theorem Shape.writeback (h : Shape s) : Shape (writebackResult s) :=
  ⟨busyChain_writeback h.busyChain, stalledStages_writeback h.stalledStages h.haltPhase,
    haltPhase_writeback h.haltPhase⟩

theorem Shape.memory (h : Shape s) (hm : MemoryStep s t) : Shape t :=
  ⟨busyChain_memory hm h.busyChain, stalledStages_memory hm h.stalledStages, haltPhase_memory hm h.haltPhase⟩

theorem Shape.execute (h : Shape s) (hx : ExecuteStep s t) : Shape t :=
  ⟨busyChain_execute hx h.busyChain, stalledStages_execute hx h.stalledStages,
    haltPhase_execute hx h.stalledStages h.haltPhase⟩

theorem Shape.decode (h : Shape s) (hd : DecodeStep s t) : Shape t :=
  ⟨busyChain_decode hd h.busyChain, stalledStages_decode hd h.stalledStages, haltPhase_decode hd h.haltPhase⟩

theorem Shape.fetch (h : Shape s) (hf : FetchStep s t) : Shape t :=
  ⟨busyChain_fetch hf h.busyChain, stalledStages_fetch hf h.stalledStages, haltPhase_fetch hf h.haltPhase⟩

end

/-! ### Latches that write no register -/

section
variable {s t : State}

theorem destOf_of_nop {i : Instr} (h : i.op = .nop) : destOf i = none := by
  cases i <;> simp_all [Instr.op, Instr.toRecord, destOf]

theorem destOf_of_halt {i : Instr} (h : i.op = .halt) : destOf i = none := by
  cases i <;> simp_all [Instr.op, Instr.toRecord, destOf]

theorem writerOf_of_dest {l : Latch} (h : destOf l.instr = none) : writerOf l = none := by simp [writerOf, h]
theorem writerOf_of_nop {l : Latch} (h : l.instr.op = .nop) : writerOf l = none := writerOf_of_dest (destOf_of_nop h)
theorem writerOf_of_halt {l : Latch} (h : l.instr.op = .halt) : writerOf l = none := writerOf_of_dest (destOf_of_halt h)
theorem writerOf_of_busy {l : Latch} (h : l.busy = true) : writerOf l = none := if_pos h

theorem writerOf_eq_some {l : Latch} {r : Reg} : writerOf l = some r ↔ l.busy = false ∧ destOf l.instr = some r := by
  cases hb : l.busy <;> simp [writerOf, hb]

@[simp] theorem writerOf_bubble : writerOf Latch.bubble = none := rfl
@[simp] theorem writerOf_frozenBubble : writerOf frozenBubble = none := rfl
@[simp] theorem writerOf_loadedLatch (s : State) : writerOf (loadedLatch s) = writerOf s.latchM := by simp [writerOf]
@[simp] theorem writerOf_executedLatch (s : State) : writerOf (executedLatch s) = writerOf s.latchX := rfl

theorem destOf_of_redirectTarget {p : Word} (h : redirectTarget s = some p) : destOf s.latchM.instr = none := by
  unfold redirectTarget at h
  split at h <;> simp_all [destOf]

/-- A stage whose latch is idle has nothing to write, and neither has the latch it would have copied to. -/
theorem Shape.writerOf_of_idle_memory (h : Shape s) (hi : s.latchM.busy = true ∨ s.latchM.stalled = true) :
    writerOf s.latchM = none ∧ writerOf s.latchW = none := by
  rcases hi with hb | hs
  · exact ⟨writerOf_of_busy hb, writerOf_of_busy (h.busyChain.of_latchM_busy hb).2⟩
  · have hM := h.stalledStages.of_latchM_stalled hs
    rcases h.haltPhase with ⟨-, -, hMs, -⟩ | ⟨-, -, ⟨-, hXs, hMX, -⟩ | ⟨-, -, hMs, -⟩ | ⟨-, -, hWi, -⟩⟩
    · simp [hMs] at hs
    · simp [hMX, hXs] at hs
    · simp [hMs] at hs
    · exact ⟨by simp [hM], writerOf_of_halt hWi⟩

theorem Shape.writerOf_of_idle_execute (h : Shape s) (hi : s.latchX.busy = true ∨ s.latchX.frozen = true) :
    writerOf s.latchX = none ∧ writerOf s.latchM = none := by
  rcases hi with hb | hf
  · exact ⟨writerOf_of_busy hb, writerOf_of_busy (h.busyChain.of_latchX_busy hb).2⟩
  · obtain ⟨hXs, hXi⟩ : s.latchX.stalled = true ∧ s.latchX.instr.op = .nop := by simpa [Latch.frozen] using hf
    refine ⟨writerOf_of_nop hXi, ?_⟩
    rcases h.haltPhase with ⟨-, hX, -⟩ | ⟨-, -, ⟨hXh, -⟩ | ⟨-, hMi, -⟩ | ⟨-, hM, -⟩⟩
    · rcases h.stalledStages.of_latchX_stalled hXs with e | e
      · exact absurd e hX
      · simp [e] at hXi
    · simp [hXh] at hXi
    · exact writerOf_of_halt hMi
    · simp [hM]

/-- While Decode is idle, X is unprimed, or HALT has frozen Decode (R103). -/
theorem Shape.op_of_idle_decode (h : Shape s) (hi : s.latchD.busy = true ∨ s.latchD.frozen = true) :
    s.latchX.instr.op = .nop ∨ s.latchX.instr.op = .halt := by
  rcases hi with hb | hf
  · simp [(h.busyChain.of_latchX_busy (h.busyChain.of_latchD_busy hb)).1]
  · rcases h.haltPhase with ⟨hD, -⟩ | ⟨-, -, ⟨hX, -⟩ | ⟨hX, -⟩ | ⟨hX, -⟩⟩
    · simp [hD] at hf
    · exact .inr hX
    · simp [hX]
    · simp [hX]

theorem Shape.writerOf_of_idle_decode (h : Shape s) (hi : s.latchD.busy = true ∨ s.latchD.frozen = true) :
    writerOf s.latchX = none :=
  (h.op_of_idle_decode hi).elim writerOf_of_nop writerOf_of_halt

/-- A HALT in W has nothing behind it that writes a register. -/
theorem Shape.writerOf_of_halt_in_W (h : Shape s) (hi : s.latchW.instr.op = .halt) :
    writerOf s.latchW = none ∧ writerOf s.latchM = none := by
  refine ⟨writerOf_of_halt hi, ?_⟩
  rcases h.haltPhase with ⟨-, -, -, -, hWi⟩ | ⟨-, -, ⟨-, -, -, hWi⟩ | ⟨-, hMi, -⟩ | ⟨-, hM, -⟩⟩
  · exact absurd hi hWi
  · exact absurd hi hWi
  · exact writerOf_of_halt hMi
  · simp [hM]

end

/-! ### The single writer of a register, stage by stage

Between stages the latch a stage has just copied on holds a stale copy, so after each stage another set of latches
accounts for the invalid registers. -/

/-- 1 if the instruction in the latch will write `r`. -/
def claims (l : Latch) (r : Reg) : Nat := if writerOf l = some r then 1 else 0

/-- 1 if `r` is invalid: how many in-flight writers of it there should be (R33, R130). -/
def reserved (v : Vector Bool 32) (r : Reg) : Nat := if v.get r then 0 else 1

theorem reserved_le_one (v : Vector Bool 32) (r : Reg) : reserved v r ≤ 1 := by unfold reserved; split <;> omega

theorem claims_of_none {l : Latch} (h : writerOf l = none) (r : Reg) : claims l r = 0 := by simp [claims, h]
theorem claims_of_some {l : Latch} {r : Reg} (h : writerOf l = some r) : claims l r = 1 := if_pos h
theorem claims_congr {l k : Latch} (h : writerOf l = writerOf k) (r : Reg) : claims l r = claims k r := by
  simp [claims, h]

/-- `SingleWriter` after Writeback, which has committed W. -/
def WritersAfterWriteback (s : State) : Prop := ∀ r, claims s.latchX r + claims s.latchM r = reserved s.valid r

/-- `SingleWriter` after Memory, M being copied to W. -/
def WritersAfterMemory (s : State) : Prop := ∀ r, claims s.latchX r + claims s.latchW r = reserved s.valid r

/-- `SingleWriter` after Execute, X being copied to M unless it is stalled. -/
def WritersAfterExecute (s : State) : Prop :=
  ∀ r, (if s.latchX.stalled then claims s.latchX r else 0) + claims s.latchM r + claims s.latchW r = reserved s.valid r

theorem writersOf_eq (s : State) (r : Reg) :
    writersOf s r = claims s.latchX r + claims s.latchM r + claims s.latchW r := by
  simp only [writersOf, List.filter_cons, List.filter_nil, beq_iff_eq, claims]
  split_ifs <;> rfl

theorem singleWriter_iff (s : State) :
    SingleWriter s ↔ ∀ r, claims s.latchX r + claims s.latchM r + claims s.latchW r = reserved s.valid r :=
  forall_congr' fun r => by rw [writersOf_eq, reserved, isValid]

section
variable {s t : State}

theorem reserved_writebackResult (s : State) (r : Reg) :
    reserved (writebackResult s).valid r = if writerOf s.latchW = some r then 0 else reserved s.valid r := by
  have h : (writebackResult s).valid.get r = if writerOf s.latchW = some r then true else s.valid.get r := setAt_get ..
  by_cases hw : writerOf s.latchW = some r <;> simp [reserved, h, hw]

theorem writers_writeback (hs : Shape s) (h : SingleWriter s) : WritersAfterWriteback (writebackResult s) := by
  intro r
  have hr := (singleWriter_iff s).1 h r
  have hM : claims (writebackResult s).latchM r = claims s.latchM r := by
    by_cases hh : HaltInWriteback s
    · rw [writebackResult_latchM_of_halt s hh, claims_of_none (hs.writerOf_of_halt_in_W hh.2).2]; rfl
    · rw [writebackResult_latchM_of_not_halt s hh]
  have hX : (writebackResult s).latchX = s.latchX := rfl
  rw [hX, hM, reserved_writebackResult]
  have := reserved_le_one s.valid r
  by_cases hW : writerOf s.latchW = some r
  · rw [if_pos hW]; rw [claims_of_some hW] at hr; omega
  · rw [if_neg hW, ← hr, claims, claims, claims, if_neg hW, Nat.add_zero]

/-- R104: a taken transfer leaves every register valid that no older instruction had reserved. -/
theorem isValid_memoryRedirect (s : State) (p : Word) (r : Reg) (h : writerOf s.latchX = some r ∨ isValid s r = true) :
    isValid (memoryRedirect s p) r = true := by
  have : isValid (memoryRedirect s p) r =
      isValid (release s.latchX (if s.latchM.instr.op = .jump then release s.latchD s else s)) r := rfl
  rw [this, isValid_release]
  rcases h with hx | hv
  · exact if_pos (writerOf_eq_some.1 hx)
  · have hv' : isValid (if s.latchM.instr.op = .jump then release s.latchD s else s) r = true := by
      split_ifs <;> simp [hv]
    rw [hv', ite_self]

theorem writers_memory (hm : MemoryStep s t) (hs : Shape s) (h : WritersAfterWriteback s) : WritersAfterMemory t := by
  intro r
  have h := h r
  cases hm with
  | idle hi =>
    obtain ⟨hM, hW⟩ := hs.writerOf_of_idle_memory hi
    rw [claims_of_none hM] at h
    simpa [claims_of_none hW] using h
  | redirect p live hp =>
    have hM : writerOf s.latchM = none := writerOf_of_dest (destOf_of_redirectTarget hp)
    have hv : (memoryRedirect s p).valid.get r = true := by
      refine isValid_memoryRedirect s p r ?_
      by_contra hn
      simp_all [claims, reserved, isValid]
    simp [claims, hM, reserved, hv]
  | halt live hi =>
    have hM : writerOf s.latchM = none := writerOf_of_halt hi
    have hX : writerOf s.latchX = none := by
      rcases hs.haltPhase with ⟨-, -, -, hMi, -⟩ | ⟨-, -, ⟨hX, -⟩ | ⟨hX, -⟩ | ⟨hX, -⟩⟩
      · exact absurd hi hMi
      · exact writerOf_of_halt hX
      · simp [hX]
      · simp [hX]
    rw [claims_of_none hX, claims_of_none hM] at h
    exact (congrArg (0 + ·) (claims_of_none hM r)).trans h
  | plain live => exact (congrArg (claims s.latchX r + ·) (claims_congr (writerOf_loadedLatch s) r)).trans h

theorem writers_execute (hx : ExecuteStep s t) (hs : Shape s) (h : WritersAfterMemory s) : WritersAfterExecute t := by
  intro r
  have h := h r
  cases hx with
  | idle hi =>
    obtain ⟨hX, hM⟩ := hs.writerOf_of_idle_execute hi
    simpa [claims_of_none hX, claims_of_none hM] using h
  | hold => exact h
  | halt hb hf hi =>
    have hX : writerOf s.latchX = none := writerOf_of_halt hi
    simpa [executeHalt, claims_of_none hX] using h
  | plain hb hf =>
    have e : (executePlain s).latchX.stalled = false := hs.stalledStages.executedLatch_stalled hf
    rw [e]
    simpa [executePlain, claims_congr (writerOf_executedLatch s)] using h

theorem singleWriter_decode (hd : DecodeStep s t) (hs : Shape s) (h : WritersAfterExecute s) : SingleWriter t := by
  refine (singleWriter_iff t).2 fun r => ?_
  have hr := h r
  cases hd with
  | idle hi =>
    have hX := hs.writerOf_of_idle_decode hi
    simpa [claims_of_none hX] using hr
  | lost hx => simpa [hx] using hr
  | copy hb hf hi hx => simpa [hx, claims_of_none (writerOf_of_nop hi)] using hr
  | wait hb hi hx => simpa [hx] using hr
  | stall hb hi hx => simpa [hx, claims_of_none writerOf_bubble] using hr
  | forward a b hb hi hx ready =>
    obtain ⟨-, -, hdest, -⟩ := ready
    have hv : (forwardDecode a b (destOf s.latchD.instr) s).valid.get r =
        if destOf s.latchD.instr = some r then false else s.valid.get r := by
      simpa [isValid] using isValid_reserve s (destOf s.latchD.instr) r
    have hX : claims (forwardDecode a b (destOf s.latchD.instr) s).latchX r =
        if destOf s.latchD.instr = some r then 1 else 0 := by simp [claims, writerOf, hb]
    simp only [forwardDecode_latchM, forwardDecode_latchW, hX, reserved, hv]
    simp only [hx, Bool.false_eq_true, if_false, reserved] at hr
    by_cases hw : destOf s.latchD.instr = some r
    · have : s.valid.get r = true := by simpa [destHazard, hw, isValid] using hdest
      simp only [this, if_true, hw, Bool.false_eq_true, if_false] at hr ⊢
      omega
    · simp only [if_neg hw]
      omega

end

/-! ### The forwarding table and a STORE's value, stage by stage -/

/-- R131: the forwarding table holds the result of the instruction in the latch, where it has a destination. -/
def Forwarded (s : State) (l : Latch) : Prop := ∀ r, writerOf l = some r → fwdEntry s r = l.buffer

theorem forwarded_of_none {l : Latch} (s : State) (h : writerOf l = none) : Forwarded s l :=
  fun r hr => by simp [h] at hr

theorem destOf_of_isLoadOf {i : Instr} {r : Reg} (h : isLoadOf i r = true) : destOf i = some r := by
  cases i <;> simp_all [isLoadOf, destOf]

theorem isLoadOf_of_load {i : Instr} {r : Reg} (hi : i.op = .load) (hd : destOf i = some r) : isLoadOf i r = true := by
  cases i <;> simp_all [Instr.op, Instr.toRecord, isLoadOf, destOf]

section
variable {s t : State}

theorem forwarded_memory (hm : MemoryStep s t) (hs : Shape s) : Forwarded t t.latchW := by
  cases hm with
  | idle hi => exact forwarded_of_none _ (hs.writerOf_of_idle_memory hi).2
  | redirect p live hp => exact forwarded_of_none _ (writerOf_of_dest (destOf_of_redirectTarget hp))
  | halt live hi => exact forwarded_of_none _ (writerOf_of_halt hi)
  | plain live =>
    intro r hr
    have hd : destOf s.latchM.instr = some r := (writerOf_eq_some.1 ((writerOf_loadedLatch s).symm.trans hr)).2
    exact (setAt_get ..).trans (if_pos hd)

/-- Execute publishes to no register that the instruction in W will write, there being one writer of each. -/
theorem forwardsResults_execute (hx : ExecuteStep s t) (hs : Shape s) (hW : Forwarded s s.latchW)
    (hw : WritersAfterMemory s) : ForwardsResults t := by
  cases hx with
  | idle hi =>
    obtain ⟨-, hM⟩ := hs.writerOf_of_idle_execute hi
    exact fun r => ⟨hW r, fun hr => absurd (hM.symm.trans hr) nofun⟩
  | hold => exact fun r => ⟨hW r, nofun⟩
  | halt hb hf hi => exact fun r => ⟨hW r, fun hr => absurd ((writerOf_of_halt hi).symm.trans hr) nofun⟩
  | plain hb hf hi hmul =>
    intro r
    have hfwd : fwdEntry (executePlain s) r =
        if publishedBy s.latchX.instr = some r then executedBuffer s else fwdEntry s r := setAt_get ..
    constructor
    · intro hr
      have hne : publishedBy s.latchX.instr ≠ some r := by
        intro hp
        have hd : destOf s.latchX.instr = some r := by
          unfold publishedBy at hp; split at hp <;> simp_all
        have hX := claims_of_some (writerOf_eq_some.2 ⟨hb, hd⟩)
        have hW := claims_of_some hr
        have := hw r
        have := reserved_le_one s.valid r
        simp only [executePlain] at hW
        omega
      rw [hfwd, if_neg hne]
      exact hW r hr
    · intro hr hl
      have hd : destOf s.latchX.instr = some r := (writerOf_eq_some.1 hr).2
      have hp : publishedBy s.latchX.instr = some r := by
        have : s.latchX.instr.op ≠ .load := fun hi => by
          have := isLoadOf_of_load hi hd
          simp [executePlain, executedLatch, this] at hl
        simp [publishedBy, this, hd]
      rw [hfwd, if_pos hp]
      rfl

theorem forwardsResults_decode (hd : DecodeStep s t) (h : ForwardsResults s) : ForwardsResults t := by
  cases hd with
  | forward => simpa [ForwardsResults, fwdEntry] using h
  | _ => exact h

/-- Once Execute has had its turn, M holds the instruction that X holds too, unless X is stalled. -/
theorem latchM_execute (hx : ExecuteStep s t) (hs : Shape s) (h : t.latchX.stalled = false) :
    t.latchM.instr = t.latchX.instr := by
  cases hx with
  | idle hi =>
    rcases hi with hb | hf
    · obtain ⟨hX, hMb⟩ := hs.busyChain.of_latchX_busy hb
      have hM := (hs.busyChain.of_latchM_busy hMb).1
      exact congrArg Latch.instr (hM.trans hX.symm)
    · simp_all [Latch.frozen]
  | hold => simp [executeMulHold] at h
  | halt => rfl
  | plain => rfl

/-- R109, R161: a STORE whose value producer is a LOAD that has just left X stalls in Decode. -/
theorem storeValueReady_decode (hd : DecodeStep s t) (hs : Shape s)
    (hM : s.latchX.stalled = false → s.latchM.instr = s.latchX.instr) (hw : WritersAfterExecute s) :
    StoreValueReady t := by
  intro rd rs1 rs2 imm hX
  have hop : t.latchX.instr.op = .store := by rw [hX]; rfl
  have hstall (h : s.latchX.stalled = true) (hi : s.latchX.instr.op = .store) : False := by
    rcases hs.stalledStages.of_latchX_stalled h with e | e
    · simp [e] at hi
    · simp [hi] at e
  cases hd with
  | idle hi =>
    have : s.latchX.instr.op = .store := hop
    simpa [this] using hs.op_of_idle_decode hi
  | lost hx => exact (hstall hx hop).elim
  | copy hb hf hi hx => simp [hi] at hop
  | wait hb hi hx => exact (hstall hx hop).elim
  | stall => exact absurd hop nofun
  | forward a b hb hi hx ready =>
    rw [forwardDecode_latchM]
    by_contra hl
    rw [Bool.not_eq_false] at hl
    have hlX : isLoadOf s.latchX.instr rs1 = true := hM hx ▸ hl
    have hMb : s.latchM.busy = false := by
      by_contra hb
      rw [(hs.busyChain.of_latchM_busy (by simpa using hb)).1] at hl
      exact absurd hl nofun
    have hv : isValid s rs1 = false := by
      have hc := claims_of_some (writerOf_eq_some.2 ⟨hMb, destOf_of_isLoadOf hl⟩)
      have hr := hw rs1
      by_contra hv
      simp only [isValid, Bool.not_eq_false] at hv
      simp only [hx, Bool.false_eq_true, if_false, reserved, hv, if_true, hc] at hr
      omega
    have hD : (sourcesOf s.latchD.instr).rs1 = some rs1 := by
      have : s.latchD.instr = .store rd rs1 rs2 imm := by simpa using hX
      rw [this]; rfl
    have := ready.rs1
    rw [hD] at this
    simp [resolveField, resolveOperand, hv, hlX] at this

end

/-! ### Fetch, and what only Writeback and the end of a tick change -/

section
variable {s t : State}

/-- R118: Fetch holds exactly while Decode does, whatever it has done. -/
theorem fetchHolds_fetch (hf : FetchStep s t) (hs : Shape s) : FetchHolds t := by
  obtain ⟨hF, hD, -⟩ := hs.busyChain
  cases hf with
  | unprimed hb => simp [hF] at hb
  | hold hfs hd => exact ⟨hfs.trans hd.symm, fun h => absurd (h.symm.trans hd) nofun⟩
  | release => exact ⟨rfl, fun _ _ => rfl⟩
  | held i hfs hd => exact ⟨hd.symm, fun h => absurd (h.symm.trans hd) nofun⟩
  | push => exact ⟨rfl, fun _ _ => rfl⟩

theorem turn_fetch (hf : FetchStep s t) : t.turn = .fetch := by cases hf <;> rfl

theorem singleWriter_fetch (hf : FetchStep s t) (h : SingleWriter s) : SingleWriter t := by cases hf <;> exact h
theorem forwardsResults_fetch (hf : FetchStep s t) (h : ForwardsResults s) : ForwardsResults t := by
  cases hf <;> exact h
theorem storeValueReady_fetch (hf : FetchStep s t) (h : StoreValueReady s) : StoreValueReady t := by
  cases hf <;> exact h

/-- The status, the registers and the counters, which the stages younger than Writeback leave alone (R32, R38, R39). -/
structure KeepsCommitted (s t : State) : Prop where
  status : t.status = s.status
  regs : t.regs = s.regs
  done : t.done = s.done
  cyc : t.cyc = s.cyc

theorem KeepsCommitted.trans {u : State} (h : KeepsCommitted s t) (h' : KeepsCommitted t u) : KeepsCommitted s u :=
  ⟨h'.status.trans h.status, h'.regs.trans h.regs, h'.done.trans h.done, h'.cyc.trans h.cyc⟩

theorem memoryStep_keepsCommitted (h : MemoryStep s t) : KeepsCommitted s t := by
  cases h with
  | redirect p => constructor <;> simp only [memoryRedirect] <;> split <;> simp
  | _ => exact ⟨rfl, rfl, rfl, rfl⟩

theorem executeStep_keepsCommitted (h : ExecuteStep s t) : KeepsCommitted s t := by
  cases h <;> exact ⟨rfl, rfl, rfl, rfl⟩

theorem decodeStep_keepsCommitted (h : DecodeStep s t) : KeepsCommitted s t := by
  cases h with
  | forward => constructor <;> simp
  | _ => exact ⟨rfl, rfl, rfl, rfl⟩

theorem fetchStep_keepsCommitted (h : FetchStep s t) : KeepsCommitted s t := by
  cases h <;> exact ⟨rfl, rfl, rfl, rfl⟩

/-- A tick: Writeback's effect on the status, the registers and DONE, and one more on CYC. -/
theorem tick_commits (h : tick s = .next t) :
    t.status = s.status ∧ t.regs = (writebackResult s).regs ∧ t.done = (writebackResult s).done ∧
      t.cyc = s.cyc + 1 := by
  obtain ⟨b, c, d, e, hm, hx, hd, hf, rfl⟩ := tick_steps h
  have k := (memoryStep_keepsCommitted hm).trans <| (executeStep_keepsCommitted hx).trans <|
    (decodeStep_keepsCommitted hd).trans (fetchStep_keepsCommitted hf)
  exact ⟨k.status, k.regs, k.done, congrArg (· + 1) k.cyc⟩

/-! ### The invariant -/

theorem Launched.of_keeps (h : Launched s) (k : KeepsInputs s t) (hs : t.status ≠ .launching) : Launched t :=
  ⟨hs, by rw [State.progLen, k.params, k.imem]; exact h.2.1, by rw [k.imem]; exact h.2.2⟩

/-- The status plays no part in the invariant, once the machine has launched. -/
theorem Inv.withStatus (h : Inv s) (st : Status) (hst : st ≠ .launching) : Inv { s with status := st } :=
  ⟨⟨hst, h.launched.2⟩, h.betweenTicks, h.busyChain, h.fetchHolds, h.stalledStages, h.haltPhase, h.singleWriter,
    h.forwardsResults, h.storeValueReady⟩

/-- A tick keeps the invariant: every stage keeps the shape, and each hands the account of the writers to the next. -/
theorem tick_keepsInv (h : Inv s) (ht : tick s = .next t) : Inv t := by
  have launched : Launched t :=
    h.launched.of_keeps (tick_keepsInputs ht) ((tick_commits ht).1 ▸ h.launched.1)
  obtain ⟨b, c, d, e, hm, hx, hd, hf, rfl⟩ := tick_steps ht
  have shapeA := h.shape.writeback
  have shapeB := shapeA.memory hm
  have shapeC := shapeB.execute hx
  have shapeD := shapeC.decode hd
  have shapeE := shapeD.fetch hf
  have holdsE : FetchHolds e := fetchHolds_fetch hf shapeD
  have turnE : e.turn = .fetch := turn_fetch hf
  have writersB := writers_memory hm shapeA (writers_writeback h.shape h.singleWriter)
  have writersC := writers_execute hx shapeB writersB
  have singleE : SingleWriter e := singleWriter_fetch hf (singleWriter_decode hd shapeC writersC)
  have forwardsC := forwardsResults_execute hx shapeB (forwarded_memory hm shapeA) writersB
  have forwardsE : ForwardsResults e := forwardsResults_fetch hf (forwardsResults_decode hd forwardsC)
  have storeD := storeValueReady_decode hd shapeC (latchM_execute hx shapeB) writersC
  have storeE : StoreValueReady e := storeValueReady_fetch hf storeD
  exact ⟨launched, turnE, shapeE.busyChain, holdsE, shapeE.stalledStages, shapeE.haltPhase, singleE, forwardsE, storeE⟩

theorem runLoop_keepsInv (h : Inv s) (ht : runLoop s = .next t) : Inv t := by
  rcases runLoop_eq_next.1 ht with ⟨-, rfl⟩ | ⟨-, -, rfl⟩ | ⟨-, -, ticked⟩
  · exact h.withStatus .completed nofun
  · exact h.withStatus .budgetExhausted nofun
  · exact tick_keepsInv h ticked

end

/-- Settles O46: a tick keeps the invariant, and so do the two stops; a launched machine does not launch again. -/
theorem stepKeepsInvariant : Obligations.StepKeepsInvariant := by
  intro s t h ht
  cases hs : s.status with
  | launching => exact absurd hs h.launched.1
  | running => exact runLoop_keepsInv h (step_running hs ▸ ht)
  | completed => exact Host.Outcome.next.inj ((step_completed hs).symm.trans ht) ▸ h
  | budgetExhausted => exact Host.Outcome.next.inj ((step_budgetExhausted hs).symm.trans ht) ▸ h

/-! ### What a tick does to the registers, the counters and Z -/

section
variable {s t : State}

/-- A step that is a tick. -/
theorem TickTo.tick (h : TickTo s t) : Machine.tick s = .next t := by
  obtain ⟨⟨hrun, hterm, hbudget⟩, hstep⟩ := h
  rw [step_running hrun] at hstep
  rcases runLoop_eq_next.1 hstep with ⟨hstop, -⟩ | ⟨-, hstop, -⟩ | ⟨-, -, ticked⟩
  · exact absurd hterm (Int.not_lt.2 hstop)
  · exact absurd hbudget (Nat.not_lt.2 hstop)
  · exact ticked

theorem memoryStep_z (h : MemoryStep s t) : t.z = s.z := by
  cases h with
  | redirect p => simp only [memoryRedirect]; split <;> simp
  | _ => rfl

theorem memoryStep_isArith (h : MemoryStep s t) (hX : isArith s.latchX.instr.op = false) :
    isArith t.latchX.instr.op = false := by
  cases h with
  | idle => exact hX
  | redirect => rfl
  | halt => rfl
  | plain => exact hX

/-- Execute writes Z for an arithmetic instruction only (R143). -/
theorem executeStep_z (h : ExecuteStep s t) (hX : isArith s.latchX.instr.op = false) : t.z = s.z := by
  cases h with
  | plain => simp [executePlain, hX]
  | _ => rfl

theorem decodeStep_z (h : DecodeStep s t) : t.z = s.z := by
  cases h with
  | forward => simp
  | _ => rfl

theorem fetchStep_z (h : FetchStep s t) : t.z = s.z := by cases h <;> rfl

theorem tick_z (h : tick s = .next t) (hX : isArith s.latchX.instr.op = false) : t.z = (writebackResult s).z := by
  obtain ⟨b, c, d, e, hm, hx, hd, hf, rfl⟩ := tick_steps h
  calc e.z = d.z := fetchStep_z hf
    _ = c.z := decodeStep_z hd
    _ = b.z := executeStep_z hx (memoryStep_isArith hm hX)
    _ = _ := memoryStep_z hm

end

/-- Settles O35: no stage writes CYC, and only Writeback writes DONE. -/
theorem tickCounts : Obligations.TickCounts := by
  intro s t h
  obtain ⟨-, -, hdone, hcyc⟩ := tick_commits h.tick
  refine ⟨hcyc, fun hb hi => ?_, fun hn => hdone.trans (if_pos hn)⟩
  exact hdone.trans (if_neg (by simp [hb, hi]))

/-- Settles O36: the registers are those Writeback leaves. -/
theorem registersChangeByCommit : Obligations.RegistersChangeByCommit := by
  intro s t r h
  obtain ⟨-, hregs, -⟩ := tick_commits h.tick
  rw [readReg, hregs]
  exact setAt_get ..

/-- Settles O38: with nothing arithmetic in X, Z is as Writeback leaves it. -/
theorem zeroFlagChangesByArithmetic : Obligations.ZeroFlagChangesByArithmetic := by
  intro s t h hX
  have hz := tick_z h.tick hX
  refine ⟨fun hW => hz.trans (if_neg ?_), fun hb hi => hz.trans (if_pos ⟨hb, hi⟩)⟩
  rintro ⟨hb, hi⟩
  simp [hb, hi] at hW

/-! ### How PC moves -/

section
variable {s t : State}

/-- The redirect of the statements is the one Memory finds after Writeback. -/
theorem redirects_iff (hh : ¬ HaltInWriteback s) (p : Word) :
    Redirects s p ↔ s.latchM.live ∧ redirectTarget (writebackResult s) = some p := by
  refine and_congr_right fun _ => ?_
  simp only [writebackStage_eq, Host.Outcome.next.injEq, exists_eq_left', redirectTarget,
    writebackResult_latchM_of_not_halt s hh]
  cases s.latchM.instr with
  | bz rd rs1 rs2 imm => cases (writebackResult s).z <;> simp [addWrap, Instr.op, Instr.toRecord, eq_comm (a := p)]
  | bnz rd rs1 rs2 imm => cases (writebackResult s).z <;> simp [addWrap, Instr.op, Instr.toRecord, eq_comm (a := p)]
  | jump rd rs1 rs2 imm => simp [Instr.op, Instr.toRecord, eq_comm (a := p)]
  | _ => simp [Instr.op, Instr.toRecord]

theorem executeStep_pc (h : ExecuteStep s t) : t.pc = s.pc := by cases h <;> rfl

theorem decodeStep_pc (h : DecodeStep s t) : t.pc = s.pc := by
  cases h with
  | forward => simp
  | _ => rfl

theorem fetchStep_pc (h : FetchStep s t) : t.pc = s.pc ∨ t.pc = nextPc s := by
  cases h with
  | held => exact .inr rfl
  | push => exact .inr rfl
  | _ => exact .inl rfl

theorem fetchStep_params (h : FetchStep s t) : t.params = s.params := by cases h <;> rfl

theorem memoryStep_pc (h : MemoryStep s t) (hr : ∀ p, s.latchM.live → redirectTarget s ≠ some p) : t.pc = s.pc := by
  cases h with
  | redirect p live hp => exact absurd hp (hr p live)
  | _ => rfl

/-! A HALT in W: the stages behind it are frozen and do nothing. -/

theorem MemoryStep.eq_of_frozen (h : MemoryStep s t) (hM : s.latchM = frozenBubble) :
    t = { s with turn := .memory } := by
  cases h with
  | idle => rfl
  | redirect _ live => simp [hM, Latch.live] at live
  | halt live => simp [hM, Latch.live] at live
  | plain live => simp [hM, Latch.live] at live

theorem ExecuteStep.eq_of_frozen (h : ExecuteStep s t) (hX : s.latchX = frozenBubble) :
    t = { s with turn := .execute } := by
  cases h with
  | idle => rfl
  | hold _ _ hs => simp [hX] at hs
  | halt _ hf => simp [hX] at hf
  | plain _ hf => simp [hX] at hf

theorem DecodeStep.eq_of_frozen (h : DecodeStep s t) (hD : s.latchD = frozenBubble) :
    t = { s with turn := .decode } := by
  cases h with
  | idle => rfl
  | lost => rfl
  | copy _ hf => simp [hD] at hf
  | wait _ hi => simp [hD] at hi
  | stall _ hi => simp [hD] at hi
  | forward _ _ _ hi => simp [hD] at hi

theorem FetchStep.eq_of_frozen (h : FetchStep s t) (hF : s.latchF = frozenBubble) (hD : s.latchD = frozenBubble) :
    t = { s with turn := .fetch } := by
  cases h with
  | unprimed => rfl
  | hold => rfl
  | release _ _ hd => simp [hD] at hd
  | held _ hf => simp [hF] at hf
  | push _ hf => simp [hF] at hf

/-- R173: with a HALT in W, F, D and X are frozen. -/
theorem HaltPhase.frozen_of_halt_in_W (h : HaltPhase s) (hi : s.latchW.instr.op = .halt) :
    s.latchF = frozenBubble ∧ s.latchD = frozenBubble ∧ s.latchX = frozenBubble := by
  rcases h with ⟨-, -, -, -, hW⟩ | ⟨hF, hD, ⟨-, -, -, hW⟩ | ⟨hX, -⟩ | ⟨hX, -⟩⟩
  · exact absurd hi hW
  · exact absurd hi hW
  · exact ⟨hF, hD, hX⟩
  · exact ⟨hF, hD, hX⟩

/-- R173: the tick in which a HALT commits is its Writeback and nothing else. -/
theorem tick_eq_of_halt (hp : HaltPhase s) (hh : HaltInWriteback s) (ht : tick s = .next t) :
    t = { writebackResult s with turn := .fetch, cyc := s.cyc + 1 } := by
  obtain ⟨b, c, d, e, hm, hx, hd, hf, rfl⟩ := tick_steps ht
  obtain ⟨hF, hD, hX⟩ := hp.frozen_of_halt_in_W hh.2
  obtain rfl := hm.eq_of_frozen (writebackResult_latchM_of_halt s hh)
  obtain rfl := hx.eq_of_frozen hX
  obtain rfl := hd.eq_of_frozen hD
  obtain rfl := hf.eq_of_frozen hF hD
  rfl

/-! A transfer taken by M: the stages behind it find the bubbles it has left, and Fetch its target. -/

theorem MemoryStep.eq_of_redirect {p : Word} (h : MemoryStep s t) (live : s.latchM.live)
    (hp : redirectTarget s = some p) : t = memoryRedirect s p := by
  cases h with
  | idle hi => simp [live.1, live.2] at hi
  | redirect q _ hq => rw [Option.some.inj (hp.symm.trans hq)]
  | halt _ hi => exact absurd hi (op_ne_halt_of_redirectTarget hp)
  | plain _ hn => exact absurd (hp.symm.trans hn) nofun

theorem ExecuteStep.eq_of_bubble (h : ExecuteStep s t) (hX : s.latchX = Latch.bubble) :
    t = { s with turn := .execute, latchM := Latch.bubble } := by
  cases h with
  | idle hi => simp [hX, Latch.frozen] at hi
  | hold _ hi => simp [hX] at hi
  | halt _ _ hi => simp [hX] at hi
  | plain =>
    simp [executePlain, executedLatch, executedBuffer, executedAddress, executedValue, publishedBy, destOf, isArith, hX,
      Latch.bubble, Instr.op, Instr.toRecord]

theorem DecodeStep.eq_of_bubble (h : DecodeStep s t) (hD : s.latchD = Latch.bubble) (hX : s.latchX = Latch.bubble) :
    t = { s with turn := .decode } := by
  cases h with
  | idle => rfl
  | lost => rfl
  | copy => simp [hD, hX]
  | wait _ hi => simp [hD] at hi
  | stall _ hi => simp [hD] at hi
  | forward _ _ _ hi => simp [hD] at hi

theorem FetchStep.eq_of_bubble (h : FetchStep s t) (hF : s.latchF = Latch.bubble) (hD : s.latchD = Latch.bubble) :
    ∃ i, fetchAt s s.pc = .ok i ∧
      t = { s with turn := .fetch, latchF := fetchedLatch s i, latchD := fetchedLatch s i, pc := nextPc s } := by
  cases h with
  | unprimed hb => simp [hF] at hb
  | hold hf => simp [hF] at hf
  | release _ hf => simp [hF] at hf
  | held _ _ hd => simp [hD] at hd
  | push i _ _ hi => exact ⟨i, hi, rfl⟩

/-- R176: the tick in which M takes a transfer fetches the instruction at the target into F and D, X and M being
bubbles. -/
theorem tick_eq_of_redirect {p : Word} (live : (writebackResult s).latchM.live)
    (hp : redirectTarget (writebackResult s) = some p) (ht : tick s = .next t) :
    let b := memoryRedirect (writebackResult s) p
    ∃ i, fetchAt b p = .ok i ∧
      t = { b with
            turn := .fetch, latchF := fetchedLatch b i, latchD := fetchedLatch b i, latchM := Latch.bubble
            pc := nextPc b, cyc := b.cyc + 1 } := by
  obtain ⟨b, c, d, e, hm, hx, hd, hf, rfl⟩ := tick_steps ht
  obtain rfl := hm.eq_of_redirect live hp
  obtain rfl := hx.eq_of_bubble rfl
  obtain rfl := hd.eq_of_bubble rfl rfl
  obtain ⟨i, hi, rfl⟩ := hf.eq_of_bubble rfl rfl
  exact ⟨i, hi, rfl⟩

/-- A tick in which no HALT commits and no transfer is taken leaves PC, or moves it on by one slot (R37). -/
theorem tick_pc_of_no_transfer (hh : ¬ HaltInWriteback s) (hr : ∀ p, ¬ Redirects s p) (ht : tick s = .next t) :
    t.pc = s.pc ∨ t.pc = wrap32 (s.pc.toInt + s.params.insnWidth) := by
  obtain ⟨b, c, d, e, hm, hx, hd, hf, rfl⟩ := tick_steps ht
  have hpc : d.pc = s.pc := by
    rw [decodeStep_pc hd, executeStep_pc hx, memoryStep_pc hm, writebackResult_pc_of_not_halt s hh]
    intro p live hp
    exact hr p ((redirects_iff hh p).2 ⟨writebackResult_latchM_of_not_halt s hh ▸ live, hp⟩)
  have hparams : d.params = s.params := (fetchStep_params hf).symm.trans (tick_keepsInputs ht).params
  have := fetchStep_pc hf
  rwa [nextPc, hpc, hparams] at this

end

/-- Settles O39: a HALT in W leaves PC at TERM_PC, a transfer in M at the slot after its target; in any other tick only
Fetch moves it. -/
theorem pcMoves : Obligations.PcMoves := by
  intro s t h ht
  refine ⟨fun hh => ?_, fun hh p hr => ?_, fun hh hr => tick_pc_of_no_transfer hh hr ht.tick⟩
  · rw [tick_eq_of_halt h.haltPhase hh ht.tick]
    exact writebackResult_pc_of_halt s hh
  · obtain ⟨live, hp⟩ := (redirects_iff hh p).1 hr
    obtain ⟨i, -, rfl⟩ := tick_eq_of_redirect (writebackResult_latchM_of_not_halt s hh ▸ live) hp ht.tick
    have : (memoryRedirect (writebackResult s) p).params = s.params := (memoryRedirect_keepsInputs _ p).params
    simp only [nextPc, memoryRedirect_pc, this]

/-! ### The bounds of the counters -/

section
variable {s t : State}

/-- DONE grows by at most one in a tick (R39). -/
theorem done_writebackResult_le (s : State) : (writebackResult s).done ≤ s.done + 1 := by
  simp only [writebackResult]
  split_ifs <;> omega

theorem tick_keepsCounters (h : CountersOk s) (hbudget : s.cyc < s.config.cycleBudget) (ht : tick s = .next t) :
    CountersOk t := by
  obtain ⟨hdone, -⟩ := h
  obtain ⟨-, -, hd, hc⟩ := tick_commits ht
  have := done_writebackResult_le s
  rw [CountersOk, (tick_keepsInputs ht).config, hd, hc]
  omega

theorem runLoop_keepsCounters (h : CountersOk s) (ht : runLoop s = .next t) : CountersOk t := by
  rcases runLoop_eq_next.1 ht with ⟨-, rfl⟩ | ⟨-, -, rfl⟩ | ⟨-, hbudget, ticked⟩
  · exact h
  · exact h
  · exact tick_keepsCounters h hbudget ticked

theorem launch_countersOk (ht : launch s = .next t) : CountersOk t := by
  obtain ⟨-, -, rfl⟩ := launch_eq_next.1 ht
  exact ⟨Nat.le_refl 0, Nat.zero_le _⟩

end

/-- Settles O48: a tick is made only within the budget, and adds 1 to CYC and at most 1 to DONE. -/
theorem stepKeepsCounterBounds : Obligations.StepKeepsCounterBounds := by
  intro s t h ht
  cases hs : s.status with
  | launching => exact launch_countersOk (step_launching hs ▸ ht)
  | running => exact runLoop_keepsCounters h (step_running hs ▸ ht)
  | completed => exact Host.Outcome.next.inj ((step_completed hs).symm.trans ht) ▸ h
  | budgetExhausted => exact Host.Outcome.next.inj ((step_budgetExhausted hs).symm.trans ht) ▸ h

/-! ### The state after a launch -/

theorem checkReg_of_inRegRange (f : RegField) {v : Int} (h : InRegRange v) : ∃ r, checkReg f v = .ok r :=
  ⟨_, if_neg (by omega)⟩

/-- R84: a well-formed record validates. -/
theorem toInstr_ok {r : Record} (h : r.WellFormed) : ∃ i, r.toInstr = .ok i := by
  have used (f : RegField) (hf : r.opcode.uses f = true) : ∃ q, checkReg f (r.field f) = .ok q := by
    obtain ⟨hd, h1, h2⟩ := h
    cases f with
    | rd => exact checkReg_of_inRegRange .rd (hd hf)
    | rs1 => exact checkReg_of_inRegRange .rs1 (h1 hf)
    | rs2 => exact checkReg_of_inRegRange .rs2 (h2 hf)
  simp only [Record.field] at used
  unfold Record.toInstr
  cases ho : r.opcode
  case add | sub | mul | and | or | xor =>
    obtain ⟨d, hd⟩ := used .rd (by rw [ho]; rfl)
    obtain ⟨a, ha⟩ := used .rs1 (by rw [ho]; rfl)
    obtain ⟨b, hb⟩ := used .rs2 (by rw [ho]; rfl)
    simp [Record.threeReg, hd, ha, hb]
  case load =>
    obtain ⟨d, hd⟩ := used .rd (by rw [ho]; rfl)
    obtain ⟨a, ha⟩ := used .rs1 (by rw [ho]; rfl)
    simp [hd, ha]
  case store =>
    obtain ⟨a, ha⟩ := used .rs1 (by rw [ho]; rfl)
    obtain ⟨b, hb⟩ := used .rs2 (by rw [ho]; rfl)
    simp [ha, hb]
  case movc =>
    obtain ⟨d, hd⟩ := used .rd (by rw [ho]; rfl)
    simp [hd]
  case jump =>
    obtain ⟨a, ha⟩ := used .rs1 (by rw [ho]; rfl)
    simp [ha]
  case nop | bz | bnz | halt => exact ⟨_, rfl⟩

/-- R86: the codes below 14 are the opcodes'. -/
theorem ofCode_isSome : ∀ c : BitVec 4, c.toNat < 14 → (Opcode.ofCode c).isSome = true := by decide

theorem reservedField_eq_zero_iff (w : BitVec 64) : reservedField w = 0 ↔ w.toNat % 2 ^ 13 = 0 := by
  rw [← BitVec.toNat_inj, reservedField, BitVec.extractLsb'_toNat]
  rfl

theorem opcodeField_toNat (w : BitVec 64) : (opcodeField w).toNat = w.toNat / 2 ^ 28 % 16 := by
  rw [opcodeField, BitVec.extractLsb'_toNat, Nat.shiftRight_eq_div_pow]

/-- R88: a legal packed word decodes. -/
theorem decode_ok {w : BitVec 64} (h : ¬ IllegalWord w) : ∃ i, decode w = .ok i := by
  obtain ⟨hop, hbits⟩ : w.toNat / 2 ^ 28 % 16 < 14 ∧ w.toNat % 2 ^ 13 = 0 := by
    simpa only [IllegalWord, not_or, not_le, not_not] using h
  obtain ⟨op, hop⟩ := Option.isSome_iff_exists.1 (ofCode_isSome (opcodeField w) (opcodeField_toNat w ▸ hop))
  exact ⟨_, by rw [decode, if_neg (not_not_intro ((reservedField_eq_zero_iff w).2 hbits)), hop]⟩

theorem slotInstr_ok {slot : Slot} (h : SlotOk slot) (k : Nat) : ∃ i, slotInstr k slot = .ok i := by
  cases slot with
  | record r => obtain ⟨i, hi⟩ := toInstr_ok h; exact ⟨i, by simp [slotInstr, hi]⟩
  | packed w => obtain ⟨i, hi⟩ := decode_ok h; exact ⟨i, by simp [slotInstr, hi]⟩

/-- R188: a program of valid slots passes the launch validation. -/
theorem firstFault_eq_none {slots : List Slot} (h : ∀ slot ∈ slots, SlotOk slot) (k : Nat) :
    firstFault k slots = none := by
  induction slots generalizing k with
  | nil => rfl
  | cons slot rest ih =>
    obtain ⟨i, hi⟩ := slotInstr_ok (h slot (List.mem_cons_self ..)) k
    simp only [firstFault, hi]
    exact ih (fun x hx => h x (List.mem_cons_of_mem _ hx)) (k + 1)

/-- Settles O10: inputs that pass the checks reach the reset, which is the table of R48. -/
theorem launchResets : Obligations.LaunchResets := by
  intro l hparams hslots
  rw [step_launching rfl]
  exact launch_eq_next.2 ⟨hparams, firstFault_eq_none hslots 0, rfl⟩

/-! ### The run mode

`setTrace` changes what no operation reads, so it commutes with each: where the operation does not branch, by unfolding;
where it branches, by `apply_ite`. -/

section
variable (b : Bool) (s : State)

/-- Steps in sequence commute with a change of the state when each of them does. -/
theorem andThen_mapNext {g : State → State} {o o' : Result} {f f' : State → Result} (ho : o' = mapNext g o)
    (hf : ∀ s, f' (g s) = mapNext g (f s)) : andThen o' f' = mapNext g (andThen o f) := by
  subst ho
  cases o with
  | next s => exact hf s
  | fault => rfl
  | refused => rfl

theorem release_setTrace (l : Latch) : release l (setTrace b s) = setTrace b (release l s) := by
  unfold release; split <;> rfl

theorem resolveField_setTrace (f : Option Reg) (v : Word) : resolveField (setTrace b s) f v = resolveField s f v := by
  cases f <;> rfl

theorem destHazard_setTrace (d : Option Reg) : destHazard (setTrace b s) d = destHazard s d := by cases d <;> rfl

theorem forwardDecode_setTrace (v w : Word) (d : Option Reg) :
    forwardDecode v w d (setTrace b s) = setTrace b (forwardDecode v w d s) := by
  cases d <;> rfl

theorem decodeTurn_setTrace (q : Sources) (d : Option Reg) (h : Bool) :
    decodeTurn q d h (setTrace b s) = setTrace b (decodeTurn q d h s) := by
  unfold decodeTurn
  rw [apply_ite (setTrace b)]
  refine ite_congr rfl (fun _ => rfl) fun _ => ?_
  simp only [resolveField_setTrace, destHazard_setTrace, setTrace_latchD, forwardDecode_setTrace]
  split
  · rw [apply_ite (setTrace b)]; rfl
  · rfl
  · rfl

theorem decodeNop_setTrace : decodeNop (setTrace b s) = setTrace b (decodeNop s) := by
  unfold decodeNop; rw [apply_ite (setTrace b)]; rfl

theorem releaseFetch_setTrace : releaseFetch (setTrace b s) = setTrace b (releaseFetch s) := by
  unfold releaseFetch; rw [apply_ite (setTrace b)]; rfl

theorem fetchTurn_setTrace (i : Instr) : fetchTurn i (setTrace b s) = setTrace b (fetchTurn i s) := by
  unfold fetchTurn; rw [apply_ite (setTrace b)]; rfl

/-! Each stage's turn of each instruction. -/

theorem exec_fetch_setTrace (i : Instr) :
    exec i (setTrace b { s with turn := .fetch }) = mapNext (setTrace b) (exec i { s with turn := .fetch }) := by
  rw [exec_fetch i _ rfl, exec_fetch i _ rfl, fetchTurn_setTrace]
  rfl

theorem exec_decode_setTrace (i : Instr) :
    exec i (setTrace b { s with turn := .decode }) = mapNext (setTrace b) (exec i { s with turn := .decode }) := by
  cases i with
  | nop => exact congrArg _ (decodeNop_setTrace b { s with turn := .decode })
  | _ => exact congrArg _ (decodeTurn_setTrace b { s with turn := .decode } ..)

theorem exec_execute_setTrace (i : Instr) :
    exec i (setTrace b { s with turn := .execute }) = mapNext (setTrace b) (exec i { s with turn := .execute }) := by
  cases i with
  | mul => cases hx : s.latchX.stalled <;> simp [exec, execMul, hx] <;> rfl
  | _ => rfl

theorem memoryBranch_setTrace (taken : Bool) (imm : Word) :
    memoryBranch taken imm (setTrace b s) = setTrace b (memoryBranch taken imm s) := by
  cases taken with
  | false => rfl
  | true =>
    exact congrArg (fun t => advanceMemory (flushYounger t))
      (release_setTrace b (setPc (addWrap s.latchM.pc imm) s) s.latchX)

theorem jumpMemory_setTrace : jumpMemory (setTrace b s) = setTrace b (jumpMemory s) := by
  have hD := release_setTrace b (setPc s.latchM.buffer s) s.latchD
  have hX := release_setTrace b (release s.latchD (setPc s.latchM.buffer s)) s.latchX
  exact congrArg (fun t => advanceMemory (flushYounger t)) ((congrArg (release s.latchX) hD).trans hX)

theorem loadMemory_setTrace (rd : Reg) : loadMemory rd (setTrace b s) = mapNext (setTrace b) (loadMemory rd s) := by
  have h : dataIndex (setTrace b s) s.latchM.memAddress = dataIndex s s.latchM.memAddress := rfl
  simp only [loadMemory, setTrace_latchM, h]
  split <;> rfl

theorem storeMemory_setTrace : storeMemory (setTrace b s) = mapNext (setTrace b) (storeMemory s) := by
  have h : dataIndex (setTrace b s) s.latchM.memAddress = dataIndex s s.latchM.memAddress := rfl
  simp only [storeMemory, setTrace_latchM, h]
  split <;> rfl

theorem exec_memory_setTrace (i : Instr) :
    exec i (setTrace b { s with turn := .memory }) = mapNext (setTrace b) (exec i { s with turn := .memory }) := by
  cases i with
  | load => exact loadMemory_setTrace ..
  | store => exact storeMemory_setTrace ..
  | bz => exact congrArg _ (memoryBranch_setTrace ..)
  | bnz => exact congrArg _ (memoryBranch_setTrace ..)
  | jump => exact congrArg _ (jumpMemory_setTrace ..)
  | _ => rfl

/-! The stages, a tick, and a step. -/

theorem writebackStage_setTrace : writebackStage (setTrace b s) = mapNext (setTrace b) (writebackStage s) := by
  rw [writebackStage_eq, writebackStage_eq]
  rfl

theorem memoryStage_setTrace : memoryStage (setTrace b s) = mapNext (setTrace b) (memoryStage s) := by
  unfold memoryStage
  rw [apply_ite (mapNext (setTrace b))]
  exact ite_congr rfl (fun _ => rfl) fun _ => exec_memory_setTrace b s _

theorem executeStage_setTrace : executeStage (setTrace b s) = mapNext (setTrace b) (executeStage s) := by
  unfold executeStage
  rw [apply_ite (mapNext (setTrace b))]
  exact ite_congr rfl (fun _ => rfl) fun _ => exec_execute_setTrace b s _

theorem decodeStage_setTrace : decodeStage (setTrace b s) = mapNext (setTrace b) (decodeStage s) := by
  unfold decodeStage
  rw [apply_ite (mapNext (setTrace b))]
  exact ite_congr rfl (fun _ => rfl) fun _ => exec_decode_setTrace b s _

theorem fetchStage_setTrace : fetchStage (setTrace b s) = mapNext (setTrace b) (fetchStage s) := by
  unfold fetchStage
  rw [apply_ite (mapNext (setTrace b)), apply_ite (mapNext (setTrace b))]
  refine ite_congr rfl (fun _ => rfl) fun _ => ite_congr rfl (fun _ => ?_) fun _ => ?_
  · exact congrArg _ (releaseFetch_setTrace b { s with turn := .fetch })
  · have hfetch : fetchAt { setTrace b s with turn := .fetch } (setTrace b s).pc =
        fetchAt { s with turn := .fetch } s.pc := rfl
    rw [hfetch]
    cases fetchAt { s with turn := .fetch } s.pc with
    | error => rfl
    | ok i => exact exec_fetch_setTrace b s i

theorem tick_setTrace : tick (setTrace b s) = mapNext (setTrace b) (tick s) :=
  andThen_mapNext (writebackStage_setTrace b s) fun s => andThen_mapNext (memoryStage_setTrace b s) fun s =>
    andThen_mapNext (executeStage_setTrace b s) fun s => andThen_mapNext (decodeStage_setTrace b s) fun s =>
      andThen_mapNext (fetchStage_setTrace b s) fun _ => rfl

theorem launch_setTrace : launch (setTrace b s) = mapNext (setTrace b) (launch s) := by
  unfold launch
  rw [apply_ite (mapNext (setTrace b)), apply_ite (mapNext (setTrace b))]
  refine ite_congr rfl (fun _ => rfl) fun _ => ite_congr rfl (fun _ => rfl) fun _ => ?_
  simp only [setTrace_imem]
  split <;> rfl

theorem runLoop_setTrace : runLoop (setTrace b s) = mapNext (setTrace b) (runLoop s) := by
  unfold runLoop
  rw [apply_ite (mapNext (setTrace b)), apply_ite (mapNext (setTrace b))]
  exact ite_congr rfl (fun _ => rfl) fun _ => ite_congr rfl (fun _ => rfl) fun _ => tick_setTrace b s

theorem step_setTrace : step (setTrace b s) = mapNext (setTrace b) (step s) := by
  cases hs : s.status with
  | launching => rw [step_launching hs, step_launching (s := setTrace b s) hs, launch_setTrace]
  | running => rw [step_running hs, step_running (s := setTrace b s) hs, runLoop_setTrace]
  | completed => rw [step_completed hs, step_completed (s := setTrace b s) hs, mapNext_next]
  | budgetExhausted => rw [step_budgetExhausted hs, step_budgetExhausted (s := setTrace b s) hs, mapNext_next]

end

/-- Settles O53: a step commutes with the change of the run mode, and both trace forms read nothing else of the
configuration. -/
theorem traceHasNoEffect : Obligations.TraceHasNoEffect := by
  intro s b shown
  refine ⟨step_setTrace b s, rfl, ?_⟩
  cases b <;> rfl

end Sys2Proof.Machine
end

section
/-! PROOFS. The architectural state a pipeline stands for (R70, R131, R133, R230): each stage's turn keeps what is in
flight, completed in order, and Fetch adds one instruction to it. -/

namespace Sys2Proof.Machine

/-! ### Flights -/

@[simp] theorem Flight.andThen_alive (a : Arch) (g : Arch → Flight) : Flight.andThen ⟨a, true⟩ g = g a := rfl

/-- An action that completes nothing and discards nothing may be left out. -/
theorem Flight.andThen_idle {g : Arch → Flight} (h : ∀ a, g a = ⟨a, true⟩) (f : Flight) : f.andThen g = f := by
  obtain ⟨a, _ | _⟩ := f
  · rfl
  · exact h a

/-- What happens behind a flight matters only where the flight is alive. -/
theorem Flight.andThen_congr {f : Flight} {g h : Arch → Flight} (e : f.alive = true → g f.arch = h f.arch) :
    f.andThen g = f.andThen h := by
  obtain ⟨a, _ | _⟩ := f
  · rfl
  · exact e rfl

/-! ### Completing a NOP or a HALT -/

section
variable {s t : State} {i : Instr}

theorem seqEffect_nop (h : i.op = .nop) (pc v w : Word) (a : Arch) : seqEffect s i pc v w a = ⟨a, true⟩ := by
  cases i with
  | nop => rfl
  | _ => exact absurd h nofun

theorem finishW_nop (h : s.latchW.instr.op = .nop) (a : Arch) : finishW s a = ⟨a, true⟩ := by
  simp [finishW, finishCommit, destOf_of_nop h, h]

theorem finishM_nop (h : s.latchM.instr.op = .nop) (a : Arch) : finishM s a = ⟨a, true⟩ := by
  unfold finishM
  cases hi : s.latchM.instr with
  | nop => rfl
  | _ => exact absurd (hi ▸ h) nofun

theorem finishX_nop (h : s.latchX.instr.op = .nop) (a : Arch) : finishX s a = ⟨a, true⟩ := seqEffect_nop h ..

theorem finishYoung_nop {l : Latch} (h : l.instr.op = .nop) (a : Arch) : finishYoung s l a = ⟨a, true⟩ :=
  seqEffect_nop h ..

theorem finishW_halt (h : s.latchW.instr.op = .halt) (a : Arch) : finishW s a = .halt s a := if_pos h

theorem finishM_halt (h : s.latchM.instr.op = .halt) (a : Arch) : finishM s a = .halt s a := by
  unfold finishM
  cases hi : s.latchM.instr with
  | halt => rfl
  | _ => exact absurd (hi ▸ h) nofun

theorem finishX_halt (h : s.latchX.instr.op = .halt) (a : Arch) : finishX s a = .halt s a := by
  unfold finishX
  cases hi : s.latchX.instr with
  | halt => rfl
  | _ => exact absurd (hi ▸ h) nofun

/-! ### What completing an instruction reads of the machine

Its latch, the parameters and the instruction memory. -/

theorem KeepsInputs.dataIndex_eq (k : KeepsInputs s t) (ea : Word) : dataIndex t ea = dataIndex s ea := by
  rw [dataIndex, k.params]; rfl

theorem KeepsInputs.termPc_eq (k : KeepsInputs s t) : termPc t = termPc s := by
  rw [termPc, State.progLen, k.params, k.imem]; rfl

theorem KeepsInputs.fetchAt_eq (k : KeepsInputs s t) (p : Word) : fetchAt t p = fetchAt s p := by
  have h : fetchAt t p = fetchAt { s with params := t.params, imem := t.imem } p := rfl
  rw [h, k.params, k.imem]

theorem KeepsInputs.load_eq (k : KeepsInputs s t) (r : Reg) (pc ea : Word) (a : Arch) :
    Flight.load t r pc ea a = Flight.load s r pc ea a := by rw [Flight.load, k.dataIndex_eq]; rfl

theorem KeepsInputs.store_eq (k : KeepsInputs s t) (v pc ea : Word) (a : Arch) :
    Flight.store t v pc ea a = Flight.store s v pc ea a := by rw [Flight.store, k.dataIndex_eq]; rfl

theorem KeepsInputs.halt_eq (k : KeepsInputs s t) (a : Arch) : Flight.halt t a = Flight.halt s a := by
  rw [Flight.halt, k.termPc_eq]; rfl

theorem KeepsInputs.seqEffect_eq (k : KeepsInputs s t) (i : Instr) (pc v w : Word) (a : Arch) :
    seqEffect t i pc v w a = seqEffect s i pc v w a := by
  cases i with
  | load => exact k.load_eq ..
  | store => exact k.store_eq ..
  | halt => exact k.halt_eq ..
  | _ => rfl

theorem KeepsInputs.finishYoung_eq (k : KeepsInputs s t) (l : Latch) : finishYoung t l = finishYoung s l :=
  funext fun _ => k.seqEffect_eq ..

theorem KeepsInputs.seqStep_eq (k : KeepsInputs s t) : seqStep t = seqStep s :=
  funext fun a => by simp only [seqStep, seqExec, k.fetchAt_eq, k.params, k.seqEffect_eq]

theorem KeepsInputs.finishX_eq (k : KeepsInputs s t) (h : t.latchX = s.latchX) : finishX t = finishX s :=
  funext fun _ => by rw [finishX, k.seqEffect_eq, h]; rfl

theorem KeepsInputs.finishM_eq (k : KeepsInputs s t) (h : t.latchM = s.latchM) : finishM t = finishM s :=
  funext fun a => by simp only [finishM, h, k.load_eq, k.store_eq, k.halt_eq]

theorem KeepsInputs.finishW_eq (k : KeepsInputs s t) (h : t.latchW = s.latchW) : finishW t = finishW s :=
  funext fun a => by simp only [finishW, h, k.halt_eq]

end

/-! ### What is in flight after each stage's turn

The latch a stage has just copied on is stale, and counts only if it is stalled. -/

section
variable (s : State)

/-- Complete the instruction in a latch of D or F only if the latch holds it into the next tick. -/
def finishHeld (l : Latch) (a : Arch) : Flight := if l.stalled then finishYoung s l a else ⟨a, true⟩

/-- Complete the instruction in X only if X holds it into the next tick. -/
def finishHeldX (a : Arch) : Flight := if s.latchX.stalled then finishX s a else ⟨a, true⟩

theorem finishHeld_of_not_stalled {l : Latch} (h : l.stalled = false) (a : Arch) : finishHeld s l a = ⟨a, true⟩ := by
  simp [finishHeld, h]

theorem finishHeld_of_stalled {l : Latch} (h : l.stalled = true) : finishHeld s l = finishYoung s l :=
  funext fun _ => if_pos h

theorem KeepsInputs.finishHeld_eq {s t : State} (k : KeepsInputs s t) (l : Latch) : finishHeld t l = finishHeld s l :=
  funext fun a => by rw [finishHeld, k.finishYoung_eq]; rfl

/-- After Writeback: M, X, D and a holding F. -/
def flightAfterWriteback : Flight :=
  (((finishM s (committed s)).andThen (finishX s)).andThen (finishYoung s s.latchD)).andThen (finishHeld s s.latchF)

/-- After Memory: W, X, D and a holding F. -/
def flightAfterMemory : Flight :=
  (((finishW s (committed s)).andThen (finishX s)).andThen (finishYoung s s.latchD)).andThen (finishHeld s s.latchF)

/-- The instructions that have left Execute: W, then M. -/
def executedFlight : Flight := (finishW s (committed s)).andThen (finishM s)

/-- After Execute: W, M, a holding X, D and a holding F. -/
def flightAfterExecute : Flight :=
  (((executedFlight s).andThen (finishHeldX s)).andThen (finishYoung s s.latchD)).andThen (finishHeld s s.latchF)

/-- After Decode: W, M, X, a holding D and a holding F. -/
def flightAfterDecode : Flight :=
  (((executedFlight s).andThen (finishX s)).andThen (finishHeld s s.latchD)).andThen (finishHeld s s.latchF)

/-- Between ticks: W, M, X, D and a holding F. -/
theorem drained_of_not_frozen (h : s.latchM.stalled = false) :
    drained s =
      ((((executedFlight s).andThen (finishX s)).andThen (finishYoung s s.latchD)).andThen
        (finishHeld s s.latchF)).arch :=
  if_neg (ne_frozenBubble_of_stalled h)

end

/-! ### Writeback -/

section
variable {s t : State}

theorem BusyChain.latchW_nop (h : BusyChain s) (hb : s.latchW.busy = true) : s.latchW.instr.op = .nop := by
  obtain ⟨-, -, -, -, hW⟩ := h
  rw [hW hb]; rfl

/-- Where an unprimed latch holds a NOP, the latch writes what its instruction does. -/
theorem writerOf_eq_destOf {l : Latch} (h : l.busy = true → l.instr.op = .nop) : writerOf l = destOf l.instr := by
  cases hb : l.busy with
  | false => simp [writerOf, hb]
  | true => rw [writerOf_of_busy hb, destOf_of_nop (h hb)]

theorem BusyChain.haltInWriteback_iff (h : BusyChain s) : HaltInWriteback s ↔ s.latchW.instr.op = .halt := by
  refine ⟨And.right, fun hi => ⟨?_, hi⟩⟩
  by_contra hb
  have := h.latchW_nop (by simpa using hb)
  simp [hi] at this

/-- Writeback completes the instruction in W. -/
theorem finishW_committed (hc : BusyChain s) (hh : ¬ HaltInWriteback s) :
    finishW s (committed s) = ⟨committed (writebackResult s), true⟩ := by
  have hi : s.latchW.instr.op ≠ .halt := fun hi => hh (hc.haltInWriteback_iff.2 hi)
  have hpc := writebackResult_pc_of_not_halt s hh
  cases hb : s.latchW.busy with
  | true =>
    rw [finishW_nop (hc.latchW_nop hb)]
    simp [committed, writebackResult, hb, writerOf]
  | false =>
    cases hw : s.latchW.instr <;>
      simp_all [committed, writebackResult, writerOf, finishW, finishCommit, destOf, isArith, Instr.op,
        Instr.toRecord, Flight.arith, Flight.result, Arch.put, Arch.count]

theorem flight_writeback (hc : BusyChain s) (hh : ¬ HaltInWriteback s) (hM : s.latchM.stalled = false) :
    drained s = (flightAfterWriteback (writebackResult s)).arch := by
  have k : KeepsInputs s (writebackResult s) := ⟨rfl, rfl, rfl⟩
  rw [drained_of_not_frozen s hM, executedFlight, finishW_committed hc hh, Flight.andThen_alive, flightAfterWriteback,
    k.finishM_eq (writebackResult_latchM_of_not_halt s hh), k.finishX_eq rfl]
  rfl

end

/-! ### Memory -/

section
variable {s t : State}

/-- What is left of a plain instruction after its Memory turn is its Writeback. -/
theorem finishM_committed (hp : redirectTarget s = none) (hi : s.latchM.instr.op ≠ .halt)
    (hk : accesses s.latchM.instr = true → ∃ k, dataIndex s s.latchM.memAddress = some k) :
    finishM s (committed s) = finishW (memoryPlain s) (committed (memoryPlain s)) := by
  cases hm : s.latchM.instr
  case load =>
    obtain ⟨k, hk⟩ := hk (by simp [hm, accesses, Instr.op, Instr.toRecord])
    obtain ⟨-, rfl⟩ := dataIndex_eq_some.1 hk
    simp [finishM, finishW, finishCommit, hm, Flight.load, hk, memoryPlain, loadedLatch, storedMemory, committed,
      destOf, isArith, Instr.op, Instr.toRecord]
  case store =>
    obtain ⟨k, hk⟩ := hk (by simp [hm, accesses, Instr.op, Instr.toRecord])
    obtain ⟨-, rfl⟩ := dataIndex_eq_some.1 hk
    simp [finishM, finishW, finishCommit, hm, Flight.store, hk, memoryPlain, loadedLatch, storedMemory, committed,
      destOf, Instr.op, Instr.toRecord, Arch.count]
  all_goals
    simp_all [finishM, finishW, finishCommit, redirectTarget, memoryPlain, loadedLatch, storedMemory, committed,
      destOf, isArith, Instr.op, Instr.toRecord, Flight.transfer, Arch.count]

theorem committed_memoryRedirect (s : State) (p : Word) :
    committed (memoryRedirect s p) = { committed s with pc := p } := by
  simp only [committed, memoryRedirect]
  split <;> simp

/-- A taken transfer counts, discards what is behind it and leaves PC at its target. -/
theorem finishM_redirect {p : Word} (hp : redirectTarget s = some p) :
    finishM s (committed s) = ⟨(committed (memoryRedirect s p)).count, false⟩ := by
  rw [committed_memoryRedirect]
  unfold redirectTarget at hp
  cases hm : s.latchM.instr <;> simp_all [finishM, Flight.transfer, committed]

/-- After a taken transfer only its count is left, Memory having put bubbles behind it. -/
theorem flightAfterMemory_redirect {p : Word} (hp : redirectTarget s = some p) :
    flightAfterMemory (memoryRedirect s p) = ⟨(committed (memoryRedirect s p)).count, true⟩ := by
  have hW : finishW (memoryRedirect s p) (committed (memoryRedirect s p)) =
      ⟨(committed (memoryRedirect s p)).count, true⟩ := by
    unfold redirectTarget at hp
    rw [finishW, memoryRedirect_latchW]
    cases hm : s.latchM.instr <;> simp_all [finishCommit, destOf, Instr.op, Instr.toRecord]
  rw [flightAfterMemory, hW, Flight.andThen_alive, finishX_nop (by simp), Flight.andThen_alive,
    finishYoung_nop (by simp), Flight.andThen_alive, finishHeld_of_not_stalled _ (by simp)]

theorem BusyChain.latchX_nop (h : BusyChain s) (hb : s.latchX.busy = true) : s.latchX.instr.op = .nop := by
  rw [(h.of_latchX_busy hb).1]; rfl

theorem BusyChain.latchM_nop (h : BusyChain s) (hb : s.latchM.busy = true) : s.latchM.instr.op = .nop := by
  rw [(h.of_latchM_busy hb).1]; rfl

/-- Memory does to the instruction in M what is left of it, but its Writeback. -/
theorem flight_memory (hc : BusyChain s) (hM : s.latchM.stalled = false) (h : memoryStage s = .next t) :
    (flightAfterWriteback s).arch = (flightAfterMemory t).arch := by
  rcases memoryStage_cases s with
    ⟨hi, e⟩ | ⟨-, -, ⟨-, -, e⟩ | ⟨p, hp, e⟩ | ⟨hi, e⟩ | ⟨hp, hi, hk, e⟩⟩ <;> cases e.symm.trans h
  · have hb : s.latchM.busy = true := by simpa [hM] using hi
    have hm := finishM_nop (hc.latchM_nop hb) (committed s)
    have hw := finishW_nop (hc.latchW_nop (hc.of_latchM_busy hb).2) (committed s)
    rw [flightAfterWriteback, hm, ← hw]
    rfl
  · rw [flightAfterMemory_redirect hp, flightAfterWriteback, finishM_redirect hp]
    rfl
  · have hW : (memoryHalt s).latchW.instr.op = .halt := hi
    rw [flightAfterWriteback, flightAfterMemory, finishM_halt hi, finishW_halt hW]
    rfl
  · rw [flightAfterWriteback, finishM_committed hp hi hk]
    rfl

end

/-! ### Execute -/

section
variable {s t : State}

/-- No instruction but a HALT is discarded once it has reached W, and Z plays no part in its Writeback but as a result. -/
theorem finishW_setZ (hi : s.latchW.instr.op ≠ .halt) (a : Arch) (z : Bool) :
    ∃ b z', finishW s a = ⟨b, true⟩ ∧ finishW s { a with z := z } = ⟨{ b with z := z' }, true⟩ := by
  unfold finishW finishCommit
  rw [if_neg hi, if_neg hi]
  cases destOf s.latchW.instr with
  | some r => split_ifs <;> exact ⟨_, _, rfl, rfl⟩
  | none => split_ifs <;> exact ⟨_, _, rfl, rfl⟩

/-- Arithmetic sets Z, whatever it was. -/
theorem seqEffect_setZ {i : Instr} (hi : isArith i.op = true) (pc v w : Word) (a : Arch) (z : Bool) :
    seqEffect s i pc v w { a with z := z } = seqEffect s i pc v w a := by
  cases i with
  | add | sub | mul => rfl
  | _ => exact absurd hi nofun

/-- R142, R161: what Execute leaves in M is what was in X with its result, its address and its value: MUL's product is in
`buffer` already, and a STORE's value is not read again. -/
theorem finishM_executePlain (hst : StalledStages s) (hv : StoreValueReady s)
    (hmul : s.latchX.instr.op = .mul → s.latchX.stalled = true) :
    finishM (executePlain s) = finishX s := by
  have k : KeepsInputs s (executePlain s) := ⟨rfl, rfl, rfl⟩
  funext a
  cases hx : s.latchX.instr
  case mul =>
    have hop : s.latchX.instr.op = .mul := by rw [hx]; rfl
    rcases hst.1 (hmul hop) with e | ⟨-, -, e⟩
    · simp [e] at hop
    · simp [finishM, finishX, seqEffect, executePlain, executedLatch, executedBuffer, hx, e]
  case store rd rs1 rs2 imm =>
    have := hv rd rs1 rs2 imm hx
    simp [finishM, finishX, seqEffect, executePlain, executedLatch, executedAddress, executedValue, hx, storeValue, this]
    exact k.store_eq ..
  case load =>
    simp [finishM, finishX, seqEffect, executePlain, executedLatch, executedAddress, hx]
    exact k.load_eq ..
  case halt =>
    simp [finishM, finishX, seqEffect, executePlain, executedLatch, hx]
    exact k.halt_eq a
  all_goals
    simp [finishM, finishX, seqEffect, executePlain, executedLatch, executedBuffer, hx]

theorem committed_executePlain (hi : isArith s.latchX.instr.op = false) :
    committed (executePlain s) = committed s := by simp [committed, executePlain, hi]

theorem committed_executePlain_arith (hi : isArith s.latchX.instr.op = true) :
    committed (executePlain s) = { committed s with z := executedBuffer s == 0 } := by
  simp [committed, executePlain, hi]

/-- Execute does to the instruction in X what is left of it, but its Memory action and its Writeback. Z, which arithmetic
sets here already, is set again by its completion. -/
theorem executedFlight_executePlain (hW : s.latchW.instr.op ≠ .halt) (hst : StalledStages s) (hv : StoreValueReady s)
    (hmul : s.latchX.instr.op = .mul → s.latchX.stalled = true) :
    executedFlight (executePlain s) = (finishW s (committed s)).andThen (finishX s) := by
  have k : KeepsInputs s (executePlain s) := ⟨rfl, rfl, rfl⟩
  rw [executedFlight, k.finishW_eq rfl, finishM_executePlain hst hv hmul]
  cases hi : isArith s.latchX.instr.op with
  | false => rw [committed_executePlain hi]
  | true =>
    obtain ⟨b, z', e, e'⟩ := finishW_setZ hW (committed s) (executedBuffer s == 0)
    rw [committed_executePlain_arith hi, e, e']
    exact seqEffect_setZ hi ..

/-- A HALT in W discards all that is behind it (R173). -/
theorem executedFlight_of_halt_in_W (h : s.latchW.instr.op = .halt) (g : Arch → Flight) :
    (executedFlight s).andThen g = .halt s (committed s) := by
  rw [executedFlight, finishW_halt h]; rfl

/-- While Execute is idle X holds nothing, and M holds nothing that a HALT in W does not discard. -/
theorem Shape.idle_execute (hs : Shape s) (hi : s.latchX.busy = true ∨ s.latchX.frozen = true) :
    s.latchX.instr.op = .nop ∧ (s.latchM.instr.op = .nop ∨ s.latchW.instr.op = .halt) := by
  rcases hi with hb | hf
  · exact ⟨hs.busyChain.latchX_nop hb, .inl (hs.busyChain.latchM_nop (hs.busyChain.of_latchX_busy hb).2)⟩
  · obtain ⟨hXs, hXi⟩ : s.latchX.stalled = true ∧ s.latchX.instr.op = .nop := by simpa [Latch.frozen] using hf
    refine ⟨hXi, ?_⟩
    rcases hs.haltPhase with ⟨-, hX, -⟩ | ⟨-, -, ⟨hX, -⟩ | ⟨-, hM, -, hW⟩ | ⟨-, -, hW, -⟩⟩
    · rcases hs.stalledStages.of_latchX_stalled hXs with e | e
      · exact absurd e hX
      · simp [e] at hXi
    · simp [hX] at hXi
    · exact .inr (hW ▸ hM)
    · exact .inr hW

theorem finishHeldX_nop (h : s.latchX.instr.op = .nop) (a : Arch) : finishHeldX s a = ⟨a, true⟩ := by
  rw [finishHeldX, finishX_nop h, ite_self]

theorem finishHeldX_of_not_stalled (h : s.latchX.stalled = false) (a : Arch) : finishHeldX s a = ⟨a, true⟩ := by
  simp [finishHeldX, h]

theorem finishHeldX_of_stalled (h : s.latchX.stalled = true) : finishHeldX s = finishX s := funext fun _ => if_pos h

theorem finishX_executeMulHold : finishX (executeMulHold s) = finishX s :=
  have k : KeepsInputs s (executeMulHold s) := ⟨rfl, rfl, rfl⟩
  funext fun _ => k.seqEffect_eq ..

theorem executedFlight_executeHalt (hi : s.latchX.instr.op = .halt) :
    executedFlight (executeHalt s) = (finishW s (committed s)).andThen (finishX s) := by
  have hX : finishX s = .halt s := funext (finishX_halt hi)
  have hM : finishM (executeHalt s) = .halt (executeHalt s) := funext (finishM_halt hi)
  rw [executedFlight, hX, hM]
  rfl

/-- A HALT discards all that is behind it, and so does what had discarded it (R173). -/
theorem andThen_finishX_halt (hi : s.latchX.instr.op = .halt) (f : Flight) (g : Arch → Flight) :
    (f.andThen (finishX s)).andThen g = f.andThen (finishX s) := by
  obtain ⟨a, _ | _⟩ := f
  · rfl
  · rw [Flight.andThen_alive, finishX_halt hi]
    rfl

/-- Whatever Execute does, what is in flight stays what it was. -/
theorem flight_execute (hs : Shape s) (hv : StoreValueReady s) (h : ExecuteStep s t) :
    flightAfterMemory s = flightAfterExecute t := by
  cases h with
  | idle hi =>
    change flightAfterMemory s = flightAfterExecute s
    obtain ⟨hX, hM | hW⟩ := hs.idle_execute hi
    · rw [flightAfterMemory, flightAfterExecute, executedFlight, Flight.andThen_idle (finishX_nop hX),
        Flight.andThen_idle (finishM_nop hM), Flight.andThen_idle (finishHeldX_nop hX)]
    · rw [flightAfterMemory, flightAfterExecute, executedFlight_of_halt_in_W hW, finishW_halt hW]
      rfl
  | hold hb hi hx =>
    have hM : (executeMulHold s).latchM.instr.op = .nop := rfl
    rw [flightAfterMemory, flightAfterExecute, executedFlight, Flight.andThen_idle (finishM_nop hM),
      finishHeldX_of_stalled rfl, finishX_executeMulHold]
    rfl
  | halt hb hf hi =>
    have hx : (executeHalt s).latchX.stalled = false := hs.stalledStages.latchX_stalled hf (by simp [hi])
    rw [flightAfterMemory, flightAfterExecute, executedFlight_executeHalt hi,
      Flight.andThen_idle (finishHeldX_of_not_stalled hx)]
    simp only [andThen_finishX_halt hi]
  | plain hb hf hi hmul =>
    have hW : s.latchW.instr.op ≠ .halt := fun hW => by
      simp [(hs.haltPhase.frozen_of_halt_in_W hW).2.2] at hf
    rw [flightAfterExecute, executedFlight_executePlain hW hs.stalledStages hv hmul,
      Flight.andThen_idle (finishHeldX_of_not_stalled (hs.stalledStages.executedLatch_stalled hf))]
    rfl

end

/-! ### Decode -/

section
variable {s t : State}

/-- Completing W puts its result into its destination (R104). -/
theorem finishW_regs (a : Arch) (r : Reg) :
    (finishW s a).arch.regs.get r = if destOf s.latchW.instr = some r then s.latchW.buffer else a.regs.get r := by
  unfold finishW finishCommit
  cases hd : destOf s.latchW.instr with
  | none => rw [if_neg (c := none = some r) nofun]; split_ifs <;> rfl
  | some q =>
    have hi : s.latchW.instr.op ≠ .halt := fun hi => by simp [destOf_of_halt hi] at hd
    rw [if_neg hi]
    split_ifs <;> simp_all [Flight.arith, Flight.result, Arch.put, Arch.count, vectorGet_set]

theorem Flight.transfer_regs (taken : Bool) (target : Word) (a : Arch) :
    (Flight.transfer taken target a).arch.regs = a.regs := by
  cases taken <;> rfl

/-- Completing M puts its result into its destination; what a LOAD will put there is not known yet. -/
theorem finishM_regs {r : Reg} (hl : isLoadOf s.latchM.instr r = false) (a : Arch) :
    (finishM s a).arch.regs.get r = if destOf s.latchM.instr = some r then s.latchM.buffer else a.regs.get r := by
  unfold finishM
  cases hi : s.latchM.instr
  case load rd rs1 rs2 imm =>
    have hne : rd ≠ r := by simpa [hi, isLoadOf] using hl
    unfold Flight.load
    cases dataIndex s s.latchM.memAddress <;>
      simp [Flight.dataFault, Flight.result, Arch.put, Arch.count, vectorGet_set, destOf, hne]
  case store =>
    unfold Flight.store
    cases dataIndex s s.latchM.memAddress <;> rfl
  case bz | bnz | jump => exact congrArg (Vector.get · r) (Flight.transfer_regs ..)
  all_goals simp [destOf, Flight.arith, Flight.result, Flight.halt, Arch.put, Arch.count, vectorGet_set]

/-- The registers once W and M are complete, where the older of two results for a register gives way. -/
theorem executedFlight_regs (alive : (executedFlight s).alive = true) {r : Reg}
    (hl : isLoadOf s.latchM.instr r = false) :
    (executedFlight s).arch.regs.get r =
      if destOf s.latchM.instr = some r then s.latchM.buffer
      else if destOf s.latchW.instr = some r then s.latchW.buffer else readReg s r := by
  have hW := finishW_regs (s := s) (committed s) r
  unfold executedFlight at alive ⊢
  cases hfin : finishW s (committed s) with
  | mk a b =>
    rw [hfin] at alive hW
    cases b with
    | false => exact absurd alive nofun
    | true =>
      rw [Flight.andThen_alive, finishM_regs hl]
      exact congrArg (ite _ _) hW

/-- R109, R131: an operand that is ready is what the register holds once W and M are complete: a valid register has no
writer in flight, and otherwise the forwarding table holds the result of the only one. -/
theorem operand_of_ready (hs : Shape s) (hM : s.latchM.instr = s.latchX.instr) (hx : s.latchX.stalled = false)
    (hw : WritersAfterExecute s) (hf : ForwardsResults s) (alive : (executedFlight s).alive = true) {r : Reg} {v : Word}
    (ready : resolveOperand s r = .ready v) : (executedFlight s).arch.regs.get r = v := by
  have hsum : claims s.latchM r + claims s.latchW r = if isValid s r then 0 else 1 := by
    have h := hw r
    rw [hx, if_neg nofun, Nat.zero_add] at h
    exact h
  have hwM : writerOf s.latchM = destOf s.latchM.instr := writerOf_eq_destOf hs.busyChain.latchM_nop
  have hwW : writerOf s.latchW = destOf s.latchW.instr := writerOf_eq_destOf hs.busyChain.latchW_nop
  simp only [claims, hwM, hwW] at hsum
  obtain ⟨hfW, hfM⟩ := hf r
  rw [hwW] at hfW
  rw [hwM] at hfM
  unfold resolveOperand at ready
  cases hv : isValid s r with
  | true =>
    obtain rfl : readReg s r = v := by simpa [hv] using ready
    have hdM : destOf s.latchM.instr ≠ some r := fun h => by simp [h, hv] at hsum
    have hdW : destOf s.latchW.instr ≠ some r := fun h => by simp [h, hv] at hsum
    have hl : isLoadOf s.latchM.instr r = false := by
      by_contra hl; exact hdM (destOf_of_isLoadOf (by simpa using hl))
    rw [executedFlight_regs alive hl, if_neg hdM, if_neg hdW]
  | false =>
    obtain ⟨hl, rfl⟩ : isLoadOf s.latchM.instr r = false ∧ fwdEntry s r = v := by
      rw [hM]; revert ready; simp only [hv]; split_ifs <;> simp_all
    rw [executedFlight_regs alive hl]
    split_ifs with hdM hdW
    · exact (hfM hdM hl).symm
    · exact (hfW hdW).symm
    · simp [hdM, hdW, hv] at hsum

/-- An instruction reads only its sources (R108). -/
theorem seqEffect_congr {i : Instr} {v v' w w' : Word} (h1 : ∀ r, (sourcesOf i).rs1 = some r → v = v')
    (h2 : ∀ r, (sourcesOf i).rs2 = some r → w = w') (pc : Word) (a : Arch) :
    seqEffect s i pc v w a = seqEffect s i pc v' w' a := by
  cases i <;> simp_all [sourcesOf, seqEffect]

/-- The value that Decode has resolved for a source field is the one a sequential run reads. -/
theorem operand_of_resolveField {f : Option Reg} {held v : Word} {a : Arch}
    (h : ∀ r v, resolveOperand s r = .ready v → a.regs.get r = v) (ready : resolveField s f held = .ready v) :
    ∀ r, f = some r → v = a.operand f := by
  rintro r rfl
  exact (h r v ready).symm

/-- An instruction that Decode may forward takes with it the operands a sequential run gives it. -/
theorem seqEffect_of_ready (hs : Shape s) (hM : s.latchM.instr = s.latchX.instr) (hx : s.latchX.stalled = false)
    (hw : WritersAfterExecute s) (hf : ForwardsResults s) {v w : Word} (ready : Ready s v w)
    (alive : (executedFlight s).alive = true) :
    seqEffect s s.latchD.instr s.latchD.pc v w (executedFlight s).arch =
      finishYoung s s.latchD (executedFlight s).arch := by
  have operand (r v) := operand_of_ready (r := r) (v := v) hs hM hx hw hf alive
  exact seqEffect_congr (operand_of_resolveField operand ready.rs1) (operand_of_resolveField operand ready.rs2) ..

/-- While Decode is idle D holds nothing, and neither does X, unless it is the HALT that is in M (R173). -/
theorem Shape.idle_decode (hs : Shape s) (hi : s.latchD.busy = true ∨ s.latchD.frozen = true) :
    s.latchD.instr.op = .nop ∧ (s.latchX.instr.op = .nop ∨ s.latchM.instr.op = .halt) := by
  rcases hi with hb | hf
  · have hD : s.latchD = Latch.unprimed := (hs.busyChain.2.1 hb).1
    exact ⟨by rw [hD]; rfl, .inl (hs.busyChain.latchX_nop (hs.busyChain.of_latchD_busy hb))⟩
  · have hD : s.latchD.instr.op = .nop := (by simpa [Latch.frozen] using hf : _ ∧ _).2
    refine ⟨hD, ?_⟩
    rcases hs.haltPhase with ⟨hD, -⟩ | ⟨-, -, ⟨hX, -, hM, -⟩ | ⟨hX, -⟩ | ⟨hX, -⟩⟩
    · simp [hD] at hf
    · exact .inr (hM ▸ hX)
    · exact .inl (by simp [hX])
    · exact .inl (by simp [hX])

/-- The parts of the state that Decode leaves to the instructions in W and M. -/
theorem executedFlight_congr (k : KeepsInputs s t) (hW : t.latchW = s.latchW) (hM : t.latchM = s.latchM)
    (hc : committed t = committed s) : executedFlight t = executedFlight s := by
  rw [executedFlight, k.finishW_eq hW, k.finishM_eq hM, hc]; rfl

theorem andThen_of_halt_in_M (hi : s.latchM.instr.op = .halt) (g : Arch → Flight) :
    (executedFlight s).andThen g = executedFlight s := by
  unfold executedFlight
  obtain ⟨a, _ | _⟩ := finishW s (committed s)
  · rfl
  · rw [Flight.andThen_alive, finishM_halt hi]
    rfl

theorem finishHeld_nop {l : Latch} (h : l.instr.op = .nop) (a : Arch) : finishHeld s l a = ⟨a, true⟩ := by
  rw [finishHeld, finishYoung_nop h, ite_self]

theorem executedFlight_forwardDecode (a b : Word) (d : Option Reg) :
    executedFlight { forwardDecode a b d s with turn := .decode } = executedFlight s :=
  executedFlight_congr (forwardDecode_keepsInputs a b d s) (by simp) (by simp) (by simp [committed])

/-- Decode forwards the instruction in D into X. -/
theorem flight_forwardDecode (hs : Shape s) (hM : s.latchM.instr = s.latchX.instr) (hx : s.latchX.stalled = false)
    (hw : WritersAfterExecute s) (hf : ForwardsResults s) {a b : Word} (ready : Ready s a b) :
    flightAfterExecute s =
      flightAfterDecode { forwardDecode a b (destOf s.latchD.instr) s with turn := .decode } := by
  generalize e : { forwardDecode a b (destOf s.latchD.instr) s with turn := .decode } = t
  have k : KeepsInputs s t := e ▸ forwardDecode_keepsInputs a b (destOf s.latchD.instr) s
  have hE : executedFlight t = executedFlight s := by rw [← e, executedFlight_forwardDecode]
  have hX (arch : Arch) : finishX t arch = seqEffect s s.latchD.instr s.latchD.pc a b arch := by
    rw [finishX, k.seqEffect_eq, ← e]; simp
  have hD : t.latchD.stalled = false := by rw [← e]; simp
  have hF : t.latchF = s.latchF := by rw [← e]; simp
  calc flightAfterExecute s
    _ = ((executedFlight s).andThen (finishYoung s s.latchD)).andThen (finishHeld s s.latchF) := by
      rw [flightAfterExecute, Flight.andThen_idle (finishHeldX_of_not_stalled hx)]
    _ = ((executedFlight s).andThen (finishX t)).andThen (finishHeld s s.latchF) := by
      rw [Flight.andThen_congr fun alive => (hX _).trans (seqEffect_of_ready hs hM hx hw hf ready alive)]
    _ = flightAfterDecode t := by
      rw [flightAfterDecode, hE, Flight.andThen_idle (finishHeld_of_not_stalled t hD), k.finishHeld_eq, hF]

/-- Whatever Decode does, what is in flight stays what it was. -/
theorem flight_decode (hs : Shape s) (hM : s.latchX.stalled = false → s.latchM.instr = s.latchX.instr)
    (hw : WritersAfterExecute s) (hf : ForwardsResults s) (h : decodeStage s = .next t) :
    flightAfterExecute s = flightAfterDecode t := by
  rcases decodeStage_cases s with
    ⟨hi, e⟩ | ⟨hb, hfz, ⟨hi, hx, e⟩ | ⟨hi, hx, e⟩ | ⟨hi, hx, e⟩ | ⟨hi, hx, e⟩ | ⟨hi, hx, a, b, ready, e⟩⟩ <;>
    cases e.symm.trans h
  · change flightAfterExecute s = flightAfterDecode s
    obtain ⟨hD, hX | hMi⟩ := hs.idle_decode hi
    · rw [flightAfterExecute, flightAfterDecode, Flight.andThen_idle (finishHeldX_nop hX),
        Flight.andThen_idle (finishX_nop hX), Flight.andThen_idle (finishYoung_nop hD),
        Flight.andThen_idle (finishHeld_nop hD)]
    · simp only [flightAfterExecute, flightAfterDecode, andThen_of_halt_in_M hMi]
  · change flightAfterExecute s = flightAfterDecode s
    rw [flightAfterExecute, flightAfterDecode, finishHeldX_of_stalled hx, Flight.andThen_idle (finishYoung_nop hi),
      Flight.andThen_idle (finishHeld_nop hi)]
  · rw [flightAfterExecute, flightAfterDecode, Flight.andThen_idle (finishHeldX_of_not_stalled hx),
      Flight.andThen_idle (finishYoung_nop hi), Flight.andThen_idle (g := finishX _) (finishX_nop hi),
      Flight.andThen_idle (finishHeld_nop hi)]
    rfl
  · rw [flightAfterExecute, finishHeldX_of_stalled hx]
    rfl
  · rw [flightAfterExecute, flightAfterDecode, Flight.andThen_idle (finishHeldX_of_not_stalled hx),
      Flight.andThen_idle (g := finishX _) (finishX_nop rfl)]
    rfl
  · exact flight_forwardDecode hs (hM hx) hx hw hf ready

end

/-! ### Fetch -/

/-- The flight with PC at `p`, if what is behind it counts: otherwise it has set PC itself. -/
def Flight.withPc (p : Word) (f : Flight) : Flight := if f.alive then ⟨{ f.arch with pc := p }, true⟩ else f

/-- Completing an instruction leaves PC and the status to those behind it, or discards these and sets PC itself. -/
structure PassesOn (g : Arch → Flight) : Prop where
  pc : ∀ a p, g { a with pc := p } = (g a).withPc p
  status : ∀ a, (g a).alive = true → (g a).arch.status = a.status

section
variable {s t : State}

theorem PassesOn.pc_of_alive {g : Arch → Flight} (h : PassesOn g) {a : Arch} (alive : (g a).alive = true) :
    (g a).arch.pc = a.pc := by
  have e : g a = (g a).withPc a.pc := h.pc a a.pc
  rw [e, Flight.withPc, if_pos alive]

theorem PassesOn.andThen {f g : Arch → Flight} (hf : PassesOn f) (hg : PassesOn g) :
    PassesOn fun a => (f a).andThen g := by
  refine ⟨fun a p => ?_, fun a => ?_⟩
  · rw [hf.pc]
    rcases f a with ⟨b, _ | _⟩
    · rfl
    · exact hg.pc b p
  · have hs := hf.status a
    revert hs
    rcases f a with ⟨b, _ | _⟩
    · exact fun _ => nofun
    · exact fun hs alive => (hg.status b alive).trans (hs rfl)

theorem idle_passesOn : PassesOn fun a => ⟨a, true⟩ := ⟨fun _ _ => rfl, fun _ _ => rfl⟩
theorem count_passesOn : PassesOn fun a => ⟨a.count, true⟩ := ⟨fun _ _ => rfl, fun _ _ => rfl⟩
theorem arith_passesOn (r : Reg) (v : Word) : PassesOn (Flight.arith r v) := ⟨fun _ _ => rfl, fun _ _ => rfl⟩
theorem result_passesOn (r : Reg) (v : Word) : PassesOn (Flight.result r v) := ⟨fun _ _ => rfl, fun _ _ => rfl⟩
theorem halt_passesOn (s : State) : PassesOn (Flight.halt s) := ⟨fun _ _ => rfl, fun _ => nofun⟩

theorem transfer_passesOn (taken : Bool → Bool) (target : Word) :
    PassesOn fun a => Flight.transfer (taken a.z) target a := by
  refine ⟨fun a p => ?_, fun a => ?_⟩ <;> simp only [Flight.transfer] <;> cases taken a.z
  · rfl
  · rfl
  · exact fun _ => rfl
  · exact nofun

theorem load_passesOn (s : State) (r : Reg) (pc ea : Word) : PassesOn (Flight.load s r pc ea) := by
  refine ⟨fun a p => ?_, fun a => ?_⟩ <;> simp only [Flight.load] <;> cases dataIndex s ea
  · rfl
  · rfl
  · exact nofun
  · exact fun _ => rfl

theorem store_passesOn (s : State) (v pc ea : Word) : PassesOn (Flight.store s v pc ea) := by
  refine ⟨fun a p => ?_, fun a => ?_⟩ <;> simp only [Flight.store] <;> cases dataIndex s ea
  · rfl
  · rfl
  · exact nofun
  · exact fun _ => rfl

theorem seqEffect_passesOn (s : State) (i : Instr) (pc v w : Word) : PassesOn (seqEffect s i pc v w) := by
  cases i with
  | nop => exact idle_passesOn
  | add | sub | mul => exact arith_passesOn ..
  | and | or | xor | movc => exact result_passesOn ..
  | load => exact load_passesOn ..
  | store => exact store_passesOn ..
  | bz => exact transfer_passesOn id _
  | bnz => exact transfer_passesOn not _
  | jump => exact transfer_passesOn (fun _ => true) _
  | halt => exact halt_passesOn s

theorem finishCommit_passesOn (i : Instr) (v : Word) : PassesOn (finishCommit i v) := by
  unfold finishCommit
  cases destOf i with
  | some r => cases isArith i.op; exacts [result_passesOn r v, arith_passesOn r v]
  | none => by_cases h : i.op = .nop; exacts [by simpa [h] using idle_passesOn, by simpa [h] using count_passesOn]

theorem finishW_passesOn (s : State) : PassesOn (finishW s) := by
  by_cases h : s.latchW.instr.op = .halt
  · rw [funext (finishW_halt h)]; exact halt_passesOn s
  · have e : finishW s = finishCommit s.latchW.instr s.latchW.buffer := funext fun _ => if_neg h
    rw [e]; exact finishCommit_passesOn ..

theorem finishM_passesOn (s : State) : PassesOn (finishM s) := by
  unfold finishM
  cases s.latchM.instr with
  | nop => exact idle_passesOn
  | add | sub | mul => exact arith_passesOn ..
  | and | or | xor | movc => exact result_passesOn ..
  | load => exact load_passesOn ..
  | store => exact store_passesOn ..
  | bz => exact transfer_passesOn id _
  | bnz => exact transfer_passesOn not _
  | jump => exact transfer_passesOn (fun _ => true) _
  | halt => exact halt_passesOn s

theorem finishX_passesOn (s : State) : PassesOn (finishX s) := seqEffect_passesOn ..

theorem seqExec_passesOn (s : State) (i : Instr) (pc : Word) : PassesOn (seqExec s i pc) := by
  have h (a : Arch) := seqEffect_passesOn s i pc (a.operand (sourcesOf i).rs1) (a.operand (sourcesOf i).rs2)
  exact ⟨fun a p => (h a).pc a p, fun a => (h a).status a⟩

theorem finishYoung_passesOn (s : State) (l : Latch) : PassesOn (finishYoung s l) := seqExec_passesOn ..

theorem finishHeld_passesOn (s : State) (l : Latch) : PassesOn (finishHeld s l) := by
  cases h : l.stalled with
  | false => rw [funext (finishHeld_of_not_stalled s h)]; exact idle_passesOn
  | true => rw [finishHeld_of_stalled s h]; exact finishYoung_passesOn s l

/-- Complete W, M, X and a holding D: all that is in flight when Fetch brings in the next instruction. -/
def finishOlder (s : State) (a : Arch) : Flight :=
  (((finishW s a).andThen (finishM s)).andThen (finishX s)).andThen (finishHeld s s.latchD)

theorem finishOlder_passesOn (s : State) : PassesOn (finishOlder s) :=
  (((finishW_passesOn s).andThen (finishM_passesOn s)).andThen (finishX_passesOn s)).andThen (finishHeld_passesOn s _)

/-- A fetch adds one sequential instruction to what is in flight, or none when it is discarded there. -/
theorem fetched_advances {i : Instr} (hi : fetchAt s s.pc = .ok i) {g : Arch → Flight} (hg : PassesOn g) :
    let u := (g { committed s with pc := nextPc s }).andThen (seqExec s i s.pc)
    u.arch = (g (committed s)).arch ∨ u.arch = seqStep s (g (committed s)).arch := by
  rw [hg.pc]
  have hpc := hg.pc_of_alive (a := committed s)
  have hst := hg.status (committed s)
  revert hpc hst
  rcases g (committed s) with ⟨⟨regs, z, dmem, pc, done, status⟩, _ | _⟩ <;> intro hpc hst
  · exact .inl rfl
  · right
    obtain rfl : pc = s.pc := hpc rfl
    obtain rfl : status = .going := hst rfl
    simp only [seqStep, hi]
    rfl

theorem drained_pushed {i : Instr} (hM : s.latchM.stalled = false) (hD : s.latchD.stalled = false) :
    drained
        { s with turn := .fetch, latchF := fetchedLatch s i, latchD := fetchedLatch s i, pc := nextPc s } =
      ((finishOlder s { committed s with pc := nextPc s }).andThen (seqExec s i s.pc)).arch := by
  rw [finishOlder, Flight.andThen_idle (finishHeld_of_not_stalled s hD)]
  refine (drained_of_not_frozen _ (by exact hM)).trans ?_
  rw [Flight.andThen_idle (finishHeld_of_not_stalled _ rfl)]
  rfl

theorem drained_held {i : Instr} (hM : s.latchM.stalled = false) (hD : s.latchD.stalled = true) :
    drained { s with turn := .fetch, latchF := { fetchedLatch s i with stalled := true }, pc := nextPc s } =
      ((finishOlder s { committed s with pc := nextPc s }).andThen (seqExec s i s.pc)).arch := by
  rw [finishOlder, finishHeld_of_stalled s hD]
  exact drained_of_not_frozen _ hM

theorem flightAfterDecode_of_not_held (hF : s.latchF.stalled = false) :
    flightAfterDecode s = finishOlder s (committed s) :=
  Flight.andThen_idle (finishHeld_of_not_stalled s hF) _

/-- Fetch leaves what is in flight as it was, or adds to it the instruction at PC. -/
theorem flight_fetch (hF : s.latchF.busy = false) (hM : s.latchM.stalled = false) (h : FetchStep s t) :
    drained t = (flightAfterDecode s).arch ∨ drained t = seqStep s (flightAfterDecode s).arch := by
  cases h with
  | unprimed hb => simp [hF] at hb
  | hold hf hd =>
    left
    rw [flightAfterDecode, finishHeld_of_stalled s hd]
    exact drained_of_not_frozen _ hM
  | release hb hf hd =>
    left
    refine (drained_of_not_frozen _ (by exact hM)).trans ?_
    rw [flightAfterDecode, Flight.andThen_idle (finishHeld_of_not_stalled s hd), finishHeld_of_stalled s hf,
      Flight.andThen_idle (finishHeld_of_not_stalled _ rfl)]
    rfl
  | held i hf hd hi =>
    rw [flightAfterDecode_of_not_held hf, drained_held hM hd]
    exact fetched_advances hi (finishOlder_passesOn s)
  | push i hf hd hi =>
    rw [flightAfterDecode_of_not_held hf, drained_pushed hM hd]
    exact fetched_advances hi (finishOlder_passesOn s)

end

/-! ### A tick -/

section
variable {s t : State}

theorem latchM_stalled_memory (h : MemoryStep s t) : t.latchM.stalled = s.latchM.stalled := by
  cases h with
  | idle => rfl
  | redirect p => rw [memoryRedirect_latchM]
  | halt => rfl
  | plain => exact loadedLatch_stalled s

theorem latchM_stalled_execute (h : ExecuteStep s t) (hst : StalledStages s) (hM : s.latchM.stalled = false) :
    t.latchM.stalled = false := by
  cases h with
  | idle => exact hM
  | hold => rfl
  | halt hb hf hi => exact hst.latchX_stalled hf (by simp [hi])
  | plain hb hf => exact hst.executedLatch_stalled hf

theorem decodeStep_latchM (h : DecodeStep s t) : t.latchM = s.latchM := by
  cases h with
  | forward => simp
  | _ => rfl

theorem storeValueReady_memory (h : MemoryStep s t) (hv : StoreValueReady s) : StoreValueReady t := by
  cases h with
  | idle => exact hv
  | redirect => exact fun _ _ _ _ => nofun
  | halt => exact fun _ _ _ _ => nofun
  | plain =>
    intro rd rs1 rs2 imm hX
    exact (congrArg (isLoadOf · rs1) (loadedLatch_instr s)).trans (hv rd rs1 rs2 imm hX)

theorem storeValueReady_writeback (hh : ¬ HaltInWriteback s) (hv : StoreValueReady s) :
    StoreValueReady (writebackResult s) := by
  rw [StoreValueReady, writebackResult_latchM_of_not_halt s hh]
  exact hv

/-- R13: TERM_PC is an address. -/
theorem Launched.termPc_toInt (h : Launched s) : (wrap32 (termPc s)).toInt = termPc s := by
  obtain ⟨-, ⟨hwidth, -, hlo, hle, hhi⟩, -⟩ := h
  exact wrap32_toInt (hlo.trans hle) (by unfold termPc; omega)

/-- R173: while the run is to go on, M is not frozen: that is the mark of a committed HALT, which leaves PC at
TERM_PC. -/
theorem Inv.latchM_not_stalled (h : Inv s) (ticking : Ticking s) : s.latchM.stalled = false := by
  rcases h.haltPhase with ⟨-, -, hM, -⟩ | ⟨-, -, ⟨-, hX, hM, -⟩ | ⟨-, -, hM, -⟩ | ⟨-, -, -, hpc⟩⟩
  · exact hM
  · exact hM ▸ hX
  · exact hM
  · exact absurd ticking.beforeTerm (by rw [hpc, h.launched.termPc_toInt]; exact lt_irrefl _)

/-- The tick in which a HALT commits leaves just what the HALT was still to do. -/
theorem drained_of_halt (h : Inv s) (hM : s.latchM.stalled = false) (hh : HaltInWriteback s) (ht : tick s = .next t) :
    drained t = drained s := by
  have hs : drained s = (Flight.halt s (committed s)).arch := by
    rw [drained_of_not_frozen s hM]
    simp only [executedFlight_of_halt_in_W hh.2]
    rfl
  obtain rfl := tick_eq_of_halt h.haltPhase hh ht
  rw [hs, drained]
  obtain ⟨hb, hi⟩ := hh
  simp [committed, Flight.halt, Arch.count, writebackResult, hb, hi, writerOf_of_halt hi, isArith]

/-- In any other tick each stage in turn keeps what is in flight, and Fetch adds to it. -/
theorem drained_of_not_halt (h : Inv s) (hM : s.latchM.stalled = false) (hh : ¬ HaltInWriteback s)
    (ht : tick s = .next t) : drained t = drained s ∨ drained t = seqStep s (drained s) := by
  obtain ⟨a, b, c, d, e, hw, hm, hx, hd, hf, rfl⟩ := tick_eq_next.1 ht
  have k : KeepsInputs s d := (writebackStage_keepsInputs hw).trans <| (memoryStage_keepsInputs hm).trans <|
    (executeStage_keepsInputs hx).trans (decodeStage_keepsInputs hd)
  cases (writebackStage_eq s).symm.trans hw
  have stepM := memoryStage_step hm
  have stepX := executeStage_step hx
  have stepD := decodeStage_step hd
  have shapeA := h.shape.writeback
  have shapeB := shapeA.memory stepM
  have shapeC := shapeB.execute stepX
  have shapeD := shapeC.decode stepD
  have writersB := writers_memory stepM shapeA (writers_writeback h.shape h.singleWriter)
  have writersC := writers_execute stepX shapeB writersB
  have forwardsC := forwardsResults_execute stepX shapeB (forwarded_memory stepM shapeA) writersB
  have valueB := storeValueReady_memory stepM (storeValueReady_writeback hh h.storeValueReady)
  have stalledA : (writebackResult s).latchM.stalled = false := by rwa [writebackResult_latchM_of_not_halt s hh]
  have stalledB := (latchM_stalled_memory stepM).trans stalledA
  have stalledD : d.latchM.stalled = false :=
    (congrArg _ (decodeStep_latchM stepD)).trans (latchM_stalled_execute stepX shapeB.stalledStages stalledB)
  have inFlight : drained s = (flightAfterDecode d).arch := calc
    drained s = (flightAfterWriteback (writebackResult s)).arch := flight_writeback h.busyChain hh hM
    _ = (flightAfterMemory b).arch := flight_memory shapeA.busyChain stalledA hm
    _ = (flightAfterExecute c).arch := congrArg _ (flight_execute shapeB valueB stepX)
    _ = _ := congrArg _ (flight_decode shapeC (latchM_execute stepX shapeB) writersC forwardsC hd)
  have counted : drained { e with cyc := e.cyc + 1 } = drained e := rfl
  rw [counted, inFlight, ← k.seqStep_eq]
  exact flight_fetch shapeD.busyChain.1 stalledD (fetchStage_step hf)

end

/-- Settles O56: a HALT in W completes in the tick and nothing else happens; in any other tick the instructions in flight
stand for the same state after every stage but Fetch, which adds at most one. -/
theorem pipelineRefinesSequential : Obligations.PipelineRefinesSequential := by
  intro s t h ht
  have hM := h.latchM_not_stalled ht.ticking
  by_cases hh : HaltInWriteback s
  · exact .inl (drained_of_halt h hM hh ht.tick)
  · exact drained_of_not_halt h hM hh ht.tick

end Sys2Proof.Machine
end

section
/-! PROOFS. The memories (20_memory.md): the data memory and its form (R60, R63, R64, R67), what a fetch gives (R62), and
the grid that PC keeps to (R66, R224). -/

namespace Sys2Proof.Machine

/-! ### The data memory in a tick -/

section
variable {s t : State}

theorem executeStep_dmem (h : ExecuteStep s t) : t.dmem = s.dmem := by cases h <;> rfl

theorem decodeStep_dmem (h : DecodeStep s t) : t.dmem = s.dmem := by
  cases h with
  | forward => simp
  | _ => rfl

theorem fetchStep_dmem (h : FetchStep s t) : t.dmem = s.dmem := by cases h <;> rfl

/-- Only Memory writes the data memory (R60). -/
theorem tick_dmem (h : tick s = .next t) : ∃ b, memoryStage (writebackResult s) = .next b ∧ t.dmem = b.dmem := by
  obtain ⟨a, b, c, d, e, hw, hm, hx, hd, hf, rfl⟩ := tick_eq_next.1 h
  cases (writebackStage_eq s).symm.trans hw
  refine ⟨b, hm, ?_⟩
  calc e.dmem = d.dmem := fetchStep_dmem (fetchStage_step hf)
    _ = c.dmem := decodeStep_dmem (decodeStage_step hd)
    _ = b.dmem := executeStep_dmem (executeStage_step hx)

theorem storedMemory_of_not_store (h : s.latchM.instr.op ≠ .store) : storedMemory s = s.dmem := by
  unfold storedMemory
  cases hi : s.latchM.instr with
  | store => exact absurd (by rw [hi]; rfl) h
  | _ => rfl

theorem storedMemory_of_store (h : s.latchM.instr.op = .store) :
    storedMemory s = s.dmem.write s.latchM.memAddress.toInt.toNat s.latchM.rs1Value := by
  unfold storedMemory
  cases hi : s.latchM.instr with
  | store => rfl
  | _ => exact absurd (hi ▸ h) nofun

/-- An instruction that transfers control accesses no data memory. -/
theorem accesses_of_redirectTarget {p : Word} (h : redirectTarget s = some p) : accesses s.latchM.instr = false := by
  unfold redirectTarget at h
  split at h <;> simp_all [accesses, Instr.op, Instr.toRecord]

theorem memoryRedirect_dmem (s : State) (p : Word) : (memoryRedirect s p).dmem = s.dmem := by
  simp only [memoryRedirect]; split <;> simp

/-- Memory writes the word at a STORE's address, which is in range, or nothing (R64, R161). -/
theorem memoryStage_dmem (h : memoryStage s = .next t) :
    (s.latchM.live ∧ s.latchM.instr.op = .store ∧
        (∃ k, dataIndex s s.latchM.memAddress = some k ∧ t.dmem = s.dmem.write k s.latchM.rs1Value)) ∨
      (¬ (s.latchM.live ∧ s.latchM.instr.op = .store) ∧ t.dmem = s.dmem) := by
  rcases memoryStage_cases s with
    ⟨hi, e⟩ | ⟨hb, hs, ⟨-, -, e⟩ | ⟨p, hp, e⟩ | ⟨hi, e⟩ | ⟨hp, hi, hk, e⟩⟩ <;> cases e.symm.trans h
  · refine .inr ⟨fun ⟨⟨hb, hs⟩, _⟩ => ?_, rfl⟩
    simp [hb, hs] at hi
  · refine .inr ⟨fun ⟨_, hstore⟩ => ?_, memoryRedirect_dmem s p⟩
    have := accesses_of_redirectTarget hp
    simp [accesses, hstore] at this
  · exact .inr ⟨by simp [hi], rfl⟩
  · by_cases hstore : s.latchM.instr.op = .store
    · obtain ⟨k, hk⟩ := hk (by simp [accesses, hstore])
      refine .inl ⟨⟨hb, hs⟩, hstore, k, hk, ?_⟩
      rw [← (dataIndex_eq_some.1 hk).2]
      exact storedMemory_of_store hstore
    · exact .inr ⟨fun h => hstore h.2, storedMemory_of_not_store hstore⟩

/-- R60, R67: the data memory after a tick, in which a HALT in W freezes M. -/
theorem tick_dmem_cases (h : tick s = .next t) :
    ((s.latchM.live ∧ s.latchM.instr.op = .store ∧ ¬ HaltInWriteback s) ∧
        ∃ k, dataIndex s s.latchM.memAddress = some k ∧ t.dmem = s.dmem.write k s.latchM.rs1Value) ∨
      (¬ (s.latchM.live ∧ s.latchM.instr.op = .store ∧ ¬ HaltInWriteback s) ∧ t.dmem = s.dmem) := by
  obtain ⟨b, hm, hdmem⟩ := tick_dmem h
  rw [hdmem]
  by_cases hh : HaltInWriteback s
  · have hM := writebackResult_latchM_of_halt s hh
    rcases memoryStage_dmem hm with ⟨live, -⟩ | ⟨-, e⟩
    · simp [hM, Latch.live] at live
    · exact .inr ⟨fun ⟨_, _, hn⟩ => hn hh, e⟩
  · have hM := writebackResult_latchM_of_not_halt s hh
    have := memoryStage_dmem hm
    rw [hM] at this
    rcases this with ⟨live, hi, written⟩ | ⟨hn, e⟩
    · exact .inl ⟨⟨live, hi, hh⟩, written⟩
    · exact .inr ⟨fun ⟨live, hi, _⟩ => hn ⟨live, hi⟩, e⟩

end

/-- Settles O37: the one write of a tick is the STORE's in Memory, and a read after it is the law of `Memory.write`. -/
theorem dataMemoryChangesByStore : Obligations.DataMemoryChangesByStore := by
  intro s t hwf ht
  rcases tick_dmem_cases ht.tick with ⟨store, k, hk, e⟩ | ⟨hn, e⟩
  · refine ⟨fun _ _ _ a => ?_, fun hn => absurd store hn⟩
    obtain ⟨⟨hlo, -⟩, rfl⟩ := dataIndex_eq_some.1 hk
    rw [e, Memory.read_write _ hwf]
    exact ite_congr (propext (by omega)) (fun _ => rfl) (fun _ => rfl)
  · exact ⟨fun live hi hh => absurd ⟨live, hi, hh⟩ hn, fun _ => e⟩

/-! ### The form of the data memory -/

section
variable {s t : State}

theorem MemoryOk.congr (h : MemoryOk s) (hd : t.dmem = s.dmem) (hp : t.params = s.params) : MemoryOk t := by
  rw [MemoryOk, hd, hp]; exact h

theorem tick_keepsMemoryOk (h : MemoryOk s) (ht : tick s = .next t) : MemoryOk t := by
  have hp := (tick_keepsInputs ht).params
  rcases tick_dmem_cases ht with ⟨-, k, hk, e⟩ | ⟨-, e⟩
  · obtain ⟨hwf, hbelow⟩ := h
    have hlt : k < s.params.dmemWords := by
      obtain ⟨hrange, rfl⟩ := dataIndex_eq_some.1 hk
      omega
    rw [MemoryOk, e, hp]
    exact ⟨Memory.wf_write _ _ hwf, Memory.below_write _ hlt hbelow⟩
  · exact h.congr e hp

theorem launch_keepsMemoryOk (h : MemoryOk s) (ht : launch s = .next t) : MemoryOk t := by
  obtain ⟨-, -, rfl⟩ := launch_eq_next.1 ht
  exact h

theorem runLoop_keepsMemoryOk (h : MemoryOk s) (ht : runLoop s = .next t) : MemoryOk t := by
  rcases runLoop_eq_next.1 ht with ⟨-, rfl⟩ | ⟨-, -, rfl⟩ | ⟨-, -, ticked⟩
  · exact h
  · exact h
  · exact tick_keepsMemoryOk h ticked

end

/-- Settles O47: a write in range keeps the form and the size, and nothing else changes the data memory. -/
theorem stepKeepsMemoryForm : Obligations.StepKeepsMemoryForm := by
  intro s t h ht
  cases hs : s.status with
  | launching => exact launch_keepsMemoryOk h (step_launching hs ▸ ht)
  | running => exact runLoop_keepsMemoryOk h (step_running hs ▸ ht)
  | completed => exact Host.Outcome.next.inj ((step_completed hs).symm.trans ht) ▸ h
  | budgetExhausted => exact Host.Outcome.next.inj ((step_budgetExhausted hs).symm.trans ht) ▸ h

theorem Memory.read_head (a : Nat) (v : Word) (rest : Memory) : Memory.read ((a, v) :: rest) a = v := if_pos rfl

theorem Memory.read_tail {a b : Nat} (h : b ≠ a) (v : Word) (rest : Memory) :
    Memory.read ((a, v) :: rest) b = Memory.read rest b := if_neg h

/-- A memory in canonical form reads at its first address as no memory does whose addresses are all greater. -/
theorem Memory.read_ne_of_lt {lo hi a : Nat} {v : Word} {rest n : Memory}
    (hm : Memory.wfFrom lo ((a, v) :: rest) = true) (hn : n.wfFrom hi = true) (ha : a < hi) :
    Memory.read ((a, v) :: rest) a ≠ n.read a := by
  obtain ⟨-, hv, -⟩ := Memory.wfFrom_cons_iff.1 hm
  rw [Memory.read_head, Memory.read_of_lt hn ha]
  exact hv

theorem Memory.wfFrom_head {lo a : Nat} {v : Word} {rest : Memory} (h : Memory.wfFrom lo ((a, v) :: rest) = true) :
    Memory.wfFrom a ((a, v) :: rest) = true := by
  obtain ⟨-, hv, hr⟩ := Memory.wfFrom_cons_iff.1 h
  exact Memory.wfFrom_cons_iff.2 ⟨Nat.le_refl a, hv, hr⟩

/-- Two memories in canonical form from the same address on that read alike are equal. -/
theorem Memory.eq_of_read {lo : Nat} {m n : Memory} (hm : m.wfFrom lo = true) (hn : n.wfFrom lo = true)
    (h : ∀ a, m.read a = n.read a) : m = n := by
  induction m generalizing lo n with
  | nil =>
    cases n with
    | nil => rfl
    | cons c rest => exact absurd (h c.1).symm (Memory.read_ne_of_lt (hi := c.1 + 1) hn rfl (by omega))
  | cons c rest ih =>
    obtain ⟨a, v⟩ := c
    cases n with
    | nil => exact absurd (h a) (Memory.read_ne_of_lt (hi := a + 1) hm rfl (by omega))
    | cons d rest' =>
      obtain ⟨b, w⟩ := d
      rcases Nat.lt_trichotomy a b with hlt | rfl | hgt
      · exact absurd (h a) (Memory.read_ne_of_lt hm (Memory.wfFrom_head hn) hlt)
      · have hvw : v = w := by simpa only [Memory.read_head] using h a
        obtain ⟨-, -, hr⟩ := Memory.wfFrom_cons_iff.1 hm
        obtain ⟨-, -, hr'⟩ := Memory.wfFrom_cons_iff.1 hn
        rw [hvw, ih hr hr' fun b => ?_]
        by_cases hb : b = a
        · rw [hb, Memory.read_of_lt hr (by omega), Memory.read_of_lt hr' (by omega)]
        · simpa only [Memory.read_tail hb] using h b
      · exact absurd (h b).symm (Memory.read_ne_of_lt hn (Memory.wfFrom_head hm) hgt)

/-- Settles O50, by induction on both lists: their first words agree, or the lower of the two is read from one only. -/
theorem memoryIsItsReads : Obligations.MemoryIsItsReads :=
  fun _ _ => Memory.eq_of_read

/-! ### What a fetch gives -/

section
variable {s : State} {p : Word}

theorem fetchAt_below (h : p.toInt < s.params.codeBase) : fetchAt s p = .error (.fetchOutOfRange p) := if_pos h

theorem fetchAt_off_grid (hlo : s.params.codeBase ≤ p.toInt)
    (h : (p.toInt - s.params.codeBase) % s.params.insnWidth ≠ 0) : fetchAt s p = .error (.fetchMisaligned p) :=
  (if_neg (not_lt.2 hlo)).trans (if_pos h)

theorem fetchAt_past_end (hlo : s.params.codeBase ≤ p.toInt)
    (h : (p.toInt - s.params.codeBase) % s.params.insnWidth = 0) (hend : endPc s ≤ p.toInt) :
    fetchAt s p = .ok (.nop 0 0 0 0) :=
  (if_neg (not_lt.2 hlo)).trans ((if_neg (not_not_intro h)).trans (if_pos hend))

/-- Slot `k` is fetched from its place on the grid. -/
theorem fetchAt_slot {k : Nat} {slot : Slot} (hp : p.toInt = s.params.codeBase + s.params.insnWidth * (k : Nat))
    (hwidth : 1 ≤ s.params.insnWidth) (hk : s.imem[k]? = some slot) : fetchAt s p = slotInstr k slot := by
  have hlen : k < s.imem.length := (List.getElem?_eq_some_iff.1 hk).1
  have hoff : p.toInt - s.params.codeBase = s.params.insnWidth * (k : Nat) := by omega
  have hlo : ¬ p.toInt < s.params.codeBase := by
    have : (0 : Int) ≤ s.params.insnWidth * (k : Nat) := by positivity
    omega
  have hend : ¬ endPc s ≤ p.toInt := by
    have : (s.params.insnWidth : Int) * (k : Nat) < s.params.insnWidth * s.imem.length := by
      exact_mod_cast Nat.mul_lt_mul_of_pos_left hlen hwidth
    simp only [endPc, Params.endPc, State.progLen]
    omega
  have hslot : ((s.params.insnWidth : Int) * (k : Nat) / s.params.insnWidth).toNat = k := by
    rw [Int.mul_ediv_cancel_left _ (by omega), Int.toNat_natCast]
  simp only [fetchAt, if_neg hlo, hoff, Int.mul_emod_right, ne_eq, not_true, if_false, if_neg hend, hslot, hk]

end

/-- Settles O18: the tests of `fetchAt` in their order, and division by the slot width. -/
theorem fetchAtTests : Obligations.FetchAtTests := by
  intro s p
  refine ⟨fetchAt_below, fetchAt_off_grid, fetchAt_past_end, ?_⟩
  rintro k i hp hwidth ⟨slot, hk, hi⟩
  exact (fetchAt_slot hp hwidth hk).trans hi

/-! ### A bad access -/

section
variable {s : State}

theorem step_ticking (h : Ticking s) : step s = tick s := by
  obtain ⟨hrun, hterm, hbudget⟩ := h
  rw [step_running hrun, runLoop, if_neg (not_le.2 hterm), if_neg (not_le.2 hbudget)]

/-- R184: Memory faults on a live access out of range. -/
theorem memoryStage_of_badAccess (h : BadAccess s) :
    memoryStage s = .fault (.dataAddressOutOfRange s.latchM.pc s.latchM.memAddress) := by
  obtain ⟨⟨hb, hs⟩, hi, hbad⟩ := h
  have hacc : accesses s.latchM.instr = true := by simpa [accesses] using hi
  have hnone := dataIndex_eq_none.2 hbad
  rcases memoryStage_cases s with ⟨hidle, -⟩ | ⟨-, -, ⟨-, -, e⟩ | ⟨p, hp, -⟩ | ⟨hhalt, -⟩ | ⟨-, -, hk, -⟩⟩
  · simp [hb, hs] at hidle
  · exact e
  · exact absurd (hacc.symm.trans (accesses_of_redirectTarget hp)) nofun
  · simp [hhalt] at hi
  · obtain ⟨k, hk⟩ := hk hacc
    simp [hnone] at hk

end

/-- Settles O42: with no HALT in W, Writeback leaves the access in M as it is, and Memory's fault ends the tick. -/
theorem badAccessFaults : Obligations.BadAccessFaults := by
  intro s ticking hh hbad
  have hM := writebackResult_latchM_of_not_halt s hh
  have bad : BadAccess (writebackResult s) := by rw [BadAccess, hM]; exact hbad
  rw [step_ticking ticking, tick, writebackStage_eq, andThen_next, memoryStage_of_badAccess bad, hM, andThen_fault]

/-! ### PC and the instruction grid -/

section
variable {s t : State}

/-- R66: `p` is on the instruction grid, at or above CODE_BASE. -/
def OnGrid (s : State) (p : Word) : Prop :=
  s.params.codeBase ≤ p.toInt ∧ (p.toInt - s.params.codeBase) % s.params.insnWidth = 0

/-- R62: an instruction is fetched only from the grid. -/
theorem onGrid_of_fetchAt {p : Word} {i : Instr} (h : fetchAt s p = .ok i) : OnGrid s p := by
  by_cases hlo : s.params.codeBase ≤ p.toInt
  · refine ⟨hlo, ?_⟩
    by_contra hgrid
    exact absurd ((fetchAt_off_grid hlo hgrid).symm.trans h) nofun
  · exact absurd ((fetchAt_below (not_le.1 hlo)).symm.trans h) nofun

theorem PcOk.congr (h : PcOk s) (hpc : t.pc = s.pc) (hp : t.params = s.params) : PcOk t := by
  rw [PcOk, hpc, hp]; exact h

/-- R13: a slot is no wider than the address space. -/
theorem Launched.insnWidth_le (h : Launched s) : (s.params.insnWidth : Int) ≤ 2 ^ 32 := by
  obtain ⟨-, ⟨-, -, hlo, hle, hhi⟩, -⟩ := h
  omega

/-- R224: the slot after one on the grid is on the grid, unless the address wraps. -/
theorem pcOk_of_next {p : Word} (hwidth : (s.params.insnWidth : Int) ≤ 2 ^ 32) (hp : OnGrid s p)
    (hparams : t.params = s.params) (hpc : t.pc = wrap32 (p.toInt + s.params.insnWidth)) : PcOk t := by
  obtain ⟨hlo, hgrid⟩ := hp
  have hmin : -2 ^ 31 ≤ p.toInt := BitVec.le_toInt p
  have hmax : p.toInt < 2 ^ 31 := BitVec.toInt_lt
  rw [PcOk, hparams, hpc]
  by_cases hroom : p.toInt + s.params.insnWidth < 2 ^ 31
  · left
    rw [wrap32_toInt (by omega) hroom]
    refine ⟨by omega, ?_⟩
    rw [add_sub_right_comm, Int.add_emod_right, hgrid]
  · right
    have : (wrap32 (p.toInt + s.params.insnWidth)).toInt = p.toInt + s.params.insnWidth - 2 ^ 32 := by
      rw [wrap32, BitVec.toInt_ofInt, Int.bmod_def]
      omega
    omega

theorem fetchStep_keepsPcOk (hwidth : (s.params.insnWidth : Int) ≤ 2 ^ 32) (h : PcOk s) (hf : FetchStep s t) :
    PcOk t := by
  cases hf with
  | held i _ _ hi => exact pcOk_of_next hwidth (onGrid_of_fetchAt hi) rfl rfl
  | push i _ _ hi => exact pcOk_of_next hwidth (onGrid_of_fetchAt hi) rfl rfl
  | _ => exact h

/-- R12: TERM_PC is on the grid. -/
theorem pcOk_of_termPc (hlaunched : Launched s) (hparams : t.params = s.params) (hpc : t.pc = wrap32 (termPc s)) :
    PcOk t := by
  left
  rw [hparams, hpc, hlaunched.termPc_toInt]
  obtain ⟨-, ⟨-, -, -, hle, -⟩, -⟩ := hlaunched
  refine ⟨hle, ?_⟩
  rw [termPc, Params.termPc, add_sub_cancel_left, Int.mul_emod_right]

theorem tick_keepsPcOk (h : Inv s) (hp : PcOk s) (ht : tick s = .next t) : PcOk t := by
  by_cases hh : HaltInWriteback s
  · obtain rfl := tick_eq_of_halt h.haltPhase hh ht
    exact pcOk_of_termPc h.launched rfl (writebackResult_pc_of_halt s hh)
  by_cases hr : ∃ p, (writebackResult s).latchM.live ∧ redirectTarget (writebackResult s) = some p
  · obtain ⟨p, live, hr⟩ := hr
    obtain ⟨i, hi, rfl⟩ := tick_eq_of_redirect live hr ht
    have k : KeepsInputs s (memoryRedirect (writebackResult s) p) :=
      (writebackStage_keepsInputs (writebackStage_eq s)).trans (memoryRedirect_keepsInputs _ p)
    rw [k.fetchAt_eq] at hi
    exact pcOk_of_next h.launched.insnWidth_le (onGrid_of_fetchAt hi) k.params (by rw [← k.params]; rfl)
  · have hparams := (tick_keepsInputs ht).params
    obtain ⟨b, c, d, e, hm, hx, hd, hf, rfl⟩ := tick_steps ht
    have hpc : d.pc = s.pc := by
      rw [decodeStep_pc hd, executeStep_pc hx, memoryStep_pc hm fun p live hp => hr ⟨p, live, hp⟩,
        writebackResult_pc_of_not_halt s hh]
    have hparams : d.params = s.params := (fetchStep_params hf).symm.trans hparams
    have onGrid : PcOk e := fetchStep_keepsPcOk (hparams ▸ h.launched.insnWidth_le) (hp.congr hpc hparams) hf
    exact onGrid

theorem runLoop_keepsPcOk (h : Inv s) (hp : PcOk s) (ht : runLoop s = .next t) : PcOk t := by
  rcases runLoop_eq_next.1 ht with ⟨-, rfl⟩ | ⟨-, -, rfl⟩ | ⟨-, -, ticked⟩
  · exact hp
  · exact hp
  · exact tick_keepsPcOk h hp ticked

end

/-- Settles O49: PC is TERM_PC after a HALT, and otherwise stays or goes on by one slot from where an instruction has been
fetched, which is on the grid. -/
theorem stepKeepsPcOnGrid : Obligations.StepKeepsPcOnGrid := by
  intro s t h hp ht
  cases hs : s.status with
  | launching => exact absurd hs h.launched.1
  | running => exact runLoop_keepsPcOk h hp (step_running hs ▸ ht)
  | completed => exact Host.Outcome.next.inj ((step_completed hs).symm.trans ht) ▸ hp
  | budgetExhausted => exact Host.Outcome.next.inj ((step_budgetExhausted hs).symm.trans ht) ▸ hp

end Sys2Proof.Machine
end

section
/-! PROOFS. The encoding (30_encoding.md): packed words and their fields (R85 to R88), and the validation of records
(R82 to R84). -/

namespace Sys2Proof.Machine

/-! ### Words as their fields in a row -/

/-- R85: the packed word with the given fields, from bit 63 down. -/
def packFields (imm : Word) (op : BitVec 4) (rd rs1 rs2 : BitVec 5) (reserved : BitVec 13) : BitVec 64 :=
  imm ++ op ++ rd ++ rs1 ++ rs2 ++ reserved

theorem encode_eq_packFields (i : Instr) :
    encode i = packFields i.toRecord.imm i.op.code (.ofInt 5 i.toRecord.rd) (.ofInt 5 i.toRecord.rs1)
      (.ofInt 5 i.toRecord.rs2) 0 := rfl

/-- A word is its fields in a row. -/
theorem packFields_fields (w : BitVec 64) :
    packFields (immField w) (opcodeField w) (w.extractLsb' 23 5) (w.extractLsb' 18 5) (w.extractLsb' 13 5)
      (reservedField w) = w := by
  simp only [packFields, immField, opcodeField, reservedField,
    BitVec.extractLsb'_append_extractLsb'_eq_extractLsb']
  exact BitVec.extractLsb'_eq_self

section
variable (imm : Word) (op : BitVec 4) (rd rs1 rs2 : BitVec 5) (reserved : BitVec 13)

@[simp] theorem immField_packFields : immField (packFields imm op rd rs1 rs2 reserved) = imm := by
  repeat refine (BitVec.extractLsb'_append_eq_of_le (by decide)).trans ?_
  exact BitVec.extractLsb'_eq_self

@[simp] theorem opcodeField_packFields : opcodeField (packFields imm op rd rs1 rs2 reserved) = op := by
  repeat refine (BitVec.extractLsb'_append_eq_of_le (by decide)).trans ?_
  exact BitVec.extractLsb'_append_eq_right

@[simp] theorem reservedField_packFields : reservedField (packFields imm op rd rs1 rs2 reserved) = reserved :=
  BitVec.extractLsb'_append_eq_right

@[simp] theorem regField_rd_packFields : regField (packFields imm op rd rs1 rs2 reserved) 23 = rd.toFin := by
  refine congrArg BitVec.toFin ?_
  repeat refine (BitVec.extractLsb'_append_eq_of_le (by decide)).trans ?_
  exact BitVec.extractLsb'_append_eq_right

@[simp] theorem regField_rs1_packFields : regField (packFields imm op rd rs1 rs2 reserved) 18 = rs1.toFin := by
  refine congrArg BitVec.toFin ?_
  repeat refine (BitVec.extractLsb'_append_eq_of_le (by decide)).trans ?_
  exact BitVec.extractLsb'_append_eq_right

@[simp] theorem regField_rs2_packFields : regField (packFields imm op rd rs1 rs2 reserved) 13 = rs2.toFin := by
  refine congrArg BitVec.toFin ?_
  repeat refine (BitVec.extractLsb'_append_eq_of_le (by decide)).trans ?_
  exact BitVec.extractLsb'_append_eq_right

end

/-- R84: a five-bit field holds any index in range. -/
theorem ofInt_toFin_of_inRegRange {v : Int} (h : InRegRange v) : ((BitVec.ofInt 5 v).toFin.val : Int) = v := by
  have : ((BitVec.ofInt 5 v).toNat : Int) = v % 2 ^ 5 := by simp [BitVec.toNat_ofInt]; omega
  exact this.trans (Int.emod_eq_of_lt h.1 (by omega))

/-- Packing a register field gives back its five bits. -/
theorem ofInt_regField (w : BitVec 64) (lo : Nat) : BitVec.ofInt 5 (regField w lo).val = w.extractLsb' lo 5 := by
  rw [BitVec.ofInt_natCast]
  exact (BitVec.ofNat_toNat ..).trans (BitVec.setWidth_eq _)

/-- R86: the opcode numbers, read in both directions. -/
theorem ofCode_eq_some_iff {c : BitVec 4} {op : Opcode} : Opcode.ofCode c = some op ↔ op.code = c := by
  constructor
  · revert c; cases op <;> decide
  · rintro rfl; cases op <;> rfl

theorem inRegRange_reg (r : Reg) : InRegRange r.val := by
  constructor <;> omega

/-! ### What a word decodes to -/

/-- R80, R83: every instruction validates from its own record. -/
theorem toInstr_toRecord (i : Instr) : i.toRecord.toInstr = .ok i := by
  cases i with
  | nop => exact Laws.RecordRoundTrip.nop ..
  | add => exact Laws.RecordRoundTrip.add ..
  | sub => exact Laws.RecordRoundTrip.sub ..
  | mul => exact Laws.RecordRoundTrip.mul ..
  | and => exact Laws.RecordRoundTrip.and ..
  | or => exact Laws.RecordRoundTrip.or ..
  | xor => exact Laws.RecordRoundTrip.xor ..
  | load => exact Laws.RecordRoundTrip.load ..
  | store => exact Laws.RecordRoundTrip.store ..
  | movc => exact Laws.RecordRoundTrip.movc ..
  | bz => exact Laws.RecordRoundTrip.bz ..
  | bnz => exact Laws.RecordRoundTrip.bnz ..
  | jump => exact Laws.RecordRoundTrip.jump ..
  | halt => exact Laws.RecordRoundTrip.halt ..

/-- An instruction is what its record says. -/
theorem toRecord_injective {i j : Instr} (h : i.toRecord = j.toRecord) : i = j :=
  Except.ok.inj ((toInstr_toRecord i).symm.trans ((congrArg Record.toInstr h).trans (toInstr_toRecord j)))

/-- R85: the instruction of an opcode with the fields of a word. -/
def wordInstr (op : Opcode) (w : BitVec 64) : Instr :=
  .ofFields op (regField w 23) (regField w 18) (regField w 13) (immField w)

theorem ofFields_toRecord (op : Opcode) (rd rs1 rs2 : Reg) (imm : Word) :
    (Instr.ofFields op rd rs1 rs2 imm).toRecord = ⟨op, rd.val, rs1.val, rs2.val, imm⟩ := by
  cases op <;> rfl

theorem wordInstr_toRecord (op : Opcode) (w : BitVec 64) :
    (wordInstr op w).toRecord = ⟨op, (regField w 23).val, (regField w 18).val, (regField w 13).val, immField w⟩ :=
  ofFields_toRecord ..

theorem wordInstr_op (op : Opcode) (w : BitVec 64) : (wordInstr op w).op = op :=
  congrArg Record.opcode (wordInstr_toRecord op w)

/-- R85 to R88: a word decodes when its reserved bits are zero and its opcode field is an opcode's code, to that opcode
with the word's fields. -/
theorem decode_eq_ok_iff {w : BitVec 64} {i : Instr} :
    decode w = .ok i ↔ reservedField w = 0 ∧ ∃ op : Opcode, op.code = opcodeField w ∧ i = wordInstr op w := by
  by_cases hr : reservedField w = 0
  · rw [decode, if_neg (not_not_intro hr), and_iff_right hr]
    simp only [← ofCode_eq_some_iff]
    cases Opcode.ofCode (opcodeField w) with
    | none => simp
    | some op => simp [wordInstr, eq_comm]
  · rw [decode, if_pos hr]
    exact ⟨nofun, fun h => absurd h.1 hr⟩

/-- Settles O2: each field read from the packed word is the one put in. -/
theorem decodeOfEncode : Obligations.DecodeOfEncode := by
  intro i ⟨hd, h1, h2⟩
  rw [encode_eq_packFields]
  refine decode_eq_ok_iff.2 ⟨by simp, i.op, by simp, toRecord_injective ?_⟩
  simp only [wordInstr_toRecord, regField_rd_packFields, regField_rs1_packFields, regField_rs2_packFields,
    immField_packFields, ofInt_toFin_of_inRegRange hd, ofInt_toFin_of_inRegRange h1, ofInt_toFin_of_inRegRange h2]
  rfl

/-- Settles O3: the instruction has the word's fields, and a word is its fields in a row. -/
theorem encodeOfDecode : Obligations.EncodeOfDecode := by
  intro w i h
  obtain ⟨hr, op, hop, rfl⟩ := decode_eq_ok_iff.1 h
  constructor
  · rw [Instr.WellFormed, wordInstr_toRecord]
    exact ⟨inRegRange_reg _, inRegRange_reg _, inRegRange_reg _⟩
  · rw [encode_eq_packFields, wordInstr_op, wordInstr_toRecord, hop, ← hr]
    simpa only [ofInt_regField] using packFields_fields w

/-! ### Mask and match -/

theorem packFields_and (imm imm' : Word) (op op' : BitVec 4) (rd rs1 rs2 rd' rs1' rs2' : BitVec 5)
    (reserved reserved' : BitVec 13) :
    packFields imm op rd rs1 rs2 reserved &&& packFields imm' op' rd' rs1' rs2' reserved' =
      packFields (imm &&& imm') (op &&& op') (rd &&& rd') (rs1 &&& rs1') (rs2 &&& rs2') (reserved &&& reserved') := by
  refine BitVec.and_append.trans ?_
  simp only [BitVec.and_append]
  rfl

/-- R87: the mask keeps the opcode and the reserved bits. (Its literal is a cast number, as in `MaskSelectsOpcode`.) -/
theorem mask_eq_packFields (w : BitVec 64) :
    w &&& ((0x00000000F0001FFF : Nat) : BitVec 64) = packFields 0 (opcodeField w) 0 0 0 (reservedField w) := by
  have hmask : ((0x00000000F0001FFF : Nat) : BitVec 64) = packFields 0 (.allOnes 4) 0 0 0 (.allOnes 13) := by decide
  conv_lhs => rw [← packFields_fields w, hmask, packFields_and]
  simp only [BitVec.ofNat_eq_ofNat, BitVec.and_zero, BitVec.and_allOnes]

theorem code_shifted_eq_packFields (c : BitVec 4) : c.zeroExtend 64 <<< 28 = packFields 0 c 0 0 0 0 := by
  revert c; decide

/-- R87: the mask and match test reads the opcode and the reserved bits. -/
theorem mask_match_iff (w : BitVec 64) (c : BitVec 4) :
    w &&& 0x00000000F0001FFF = c.zeroExtend 64 <<< 28 ↔ reservedField w = 0 ∧ opcodeField w = c := by
  rw [mask_eq_packFields, code_shifted_eq_packFields]
  constructor
  · intro h
    exact ⟨by simpa using congrArg reservedField h, by simpa using congrArg opcodeField h⟩
  · rintro ⟨hr, rfl⟩
    rw [hr]

/-- Settles O4: a word decodes to opcode `op` when its reserved bits are zero and its opcode field is the code of
`op`. -/
theorem maskSelectsOpcode : Obligations.MaskSelectsOpcode := by
  intro w op
  rw [mask_match_iff]
  constructor
  · rintro ⟨i, hi, rfl⟩
    obtain ⟨hr, op, hop, rfl⟩ := decode_eq_ok_iff.1 hi
    exact ⟨hr, by rw [wordInstr_op, hop]⟩
  · rintro ⟨hr, hop⟩
    exact ⟨wordInstr op w, decode_eq_ok_iff.2 ⟨hr, op, hop.symm, rfl⟩, wordInstr_op op w⟩

/-! ### The fields as numbers -/

theorem regField_val (w : BitVec 64) (lo : Nat) : (regField w lo).val = w.toNat / 2 ^ lo % 32 := by
  rw [← Nat.shiftRight_eq_div_pow]
  exact BitVec.extractLsb'_toNat lo 5 w

theorem immField_eq_ofNat (w : BitVec 64) : immField w = BitVec.ofNat 32 (w.toNat / 2 ^ 32) := by
  rw [← Nat.shiftRight_eq_div_pow]
  rfl

/-- R84: the record of an instruction passes the register check. -/
theorem toRecord_wellFormed (i : Instr) : i.toRecord.WellFormed := by
  cases i with
  | nop | bz | bnz | halt => exact ⟨nofun, nofun, nofun⟩
  | add | sub | mul | and | or | xor =>
    exact ⟨fun _ => inRegRange_reg _, fun _ => inRegRange_reg _, fun _ => inRegRange_reg _⟩
  | load => exact ⟨fun _ => inRegRange_reg _, fun _ => inRegRange_reg _, nofun⟩
  | store => exact ⟨nofun, fun _ => inRegRange_reg _, fun _ => inRegRange_reg _⟩
  | movc => exact ⟨fun _ => inRegRange_reg _, nofun, nofun⟩
  | jump => exact ⟨nofun, fun _ => inRegRange_reg _, nofun⟩

/-- Settles O5: the fields of the word, read as numbers. -/
theorem packedWordFields : Obligations.PackedWordFields := by
  intro w op hr hop
  have hcode : op.code = opcodeField w := BitVec.eq_of_toNat_eq (hop.trans (opcodeField_toNat w).symm)
  refine ⟨wordInstr op w, decode_eq_ok_iff.2 ⟨(reservedField_eq_zero_iff w).2 hr, op, hcode, rfl⟩,
    toRecord_wellFormed _, ?_⟩
  rw [wordInstr_toRecord, regField_val, regField_val, regField_val, immField_eq_ofNat]

theorem code_lt (op : Opcode) : op.code.toNat < 14 := by cases op <;> decide

/-- Settles O6: a word that decodes has the code of an opcode and zero reserved bits, and any such word decodes. -/
theorem illegalWordsRefused : Obligations.IllegalWordsRefused := by
  intro w
  constructor
  · rintro ⟨e, he⟩
    by_contra hlegal
    obtain ⟨i, hi⟩ := decode_ok hlegal
    cases he.symm.trans hi
  · intro hbad
    cases hw : decode w with
    | error e => exact ⟨e, rfl⟩
    | ok i =>
      obtain ⟨hr, op, hop, -⟩ := decode_eq_ok_iff.1 hw
      have hcode : w.toNat / 2 ^ 28 % 16 < 14 := by rw [← opcodeField_toNat, ← hop]; exact code_lt op
      rcases hbad with h | h
      · omega
      · exact absurd ((reservedField_eq_zero_iff w).1 hr) h

/-- Settles O1: the eight rows of R96, evaluated. -/
theorem workedEncodings : Obligations.WorkedEncodings := by
  unfold Obligations.WorkedEncodings
  decide

/-! ### Validation of records -/

theorem checkReg_of_not_inRegRange (f : RegField) {v : Int} (h : ¬ InRegRange v) : checkReg f v = .error (f, v) :=
  if_pos (by omega)

/-- R188: the field that validation names: used, out of range, and every used field before it in range. -/
structure FirstBadField (r : Record) (f : RegField) : Prop where
  used : r.opcode.uses f = true
  bad : ¬ InRegRange (r.field f)
  before : ∀ g ∈ checkedBefore f, r.opcode.uses g = true → InRegRange (r.field g)

theorem exists_firstBadField {r : Record} (h : ¬ r.WellFormed) : ∃ f, FirstBadField r f := by
  by_cases hd : r.opcode.uses .rd = true → InRegRange r.rd
  · by_cases h1 : r.opcode.uses .rs1 = true → InRegRange r.rs1
    · by_cases h2 : r.opcode.uses .rs2 = true → InRegRange r.rs2
      · exact absurd ⟨hd, h1, h2⟩ h
      · obtain ⟨used, bad⟩ := Classical.not_imp.1 h2
        exact ⟨.rs2, used, bad, by simpa [checkedBefore, Record.field] using ⟨hd, h1⟩⟩
    · obtain ⟨used, bad⟩ := Classical.not_imp.1 h1
      exact ⟨.rs1, used, bad, by simpa [checkedBefore, Record.field] using hd⟩
  · obtain ⟨used, bad⟩ := Classical.not_imp.1 hd
    exact ⟨.rd, used, bad, nofun⟩

/-- R188: validation names the first bad field. -/
theorem toInstr_of_firstBadField {r : Record} {f : RegField} (h : FirstBadField r f) :
    r.toInstr = .error (f, r.field f) := by
  obtain ⟨op, rd, rs1, rs2, imm⟩ := r
  obtain ⟨used, bad, before⟩ := h
  have hbad := checkReg_of_not_inRegRange f bad
  have hok (g : RegField) (hg : g ∈ checkedBefore f) (hu : op.uses g = true) :=
    checkReg_of_inRegRange g (before g hg hu)
  cases f with
  | rd =>
    simp only [Record.field] at hbad
    cases op with
    | add | sub | mul | and | or | xor => simp [Record.toInstr, Record.threeReg, Record.field, hbad]
    | load | movc => simp [Record.toInstr, Record.field, hbad]
    | store | jump | nop | bz | bnz | halt => cases used
  | rs1 =>
    simp only [Record.field] at hbad
    cases op with
    | add | sub | mul | and | or | xor =>
      obtain ⟨d, hd⟩ := hok .rd (by decide) rfl
      simp only [Record.field] at hd
      simp [Record.toInstr, Record.threeReg, Record.field, hd, hbad]
    | load =>
      obtain ⟨d, hd⟩ := hok .rd (by decide) rfl
      simp only [Record.field] at hd
      simp [Record.toInstr, Record.field, hd, hbad]
    | store | jump => simp [Record.toInstr, Record.field, hbad]
    | movc | nop | bz | bnz | halt => cases used
  | rs2 =>
    simp only [Record.field] at hbad
    cases op with
    | add | sub | mul | and | or | xor =>
      obtain ⟨d, hd⟩ := hok .rd (by decide) rfl
      obtain ⟨a, ha⟩ := hok .rs1 (by decide) rfl
      simp only [Record.field] at hd ha
      simp [Record.toInstr, Record.threeReg, Record.field, hd, ha, hbad]
    | store =>
      obtain ⟨a, ha⟩ := hok .rs1 (by decide) rfl
      simp only [Record.field] at ha
      simp [Record.toInstr, Record.field, ha, hbad]
    | load | movc | jump | nop | bz | bnz | halt => cases used

/-- R84: only a well-formed record validates. -/
theorem wellFormed_of_toInstr {r : Record} {i : Instr} (h : r.toInstr = .ok i) : r.WellFormed := by
  by_contra hbad
  obtain ⟨f, hf⟩ := exists_firstBadField hbad
  cases h.symm.trans (toInstr_of_firstBadField hf)

theorem exists_reg {v : Int} (h : InRegRange v) : ∃ r : Reg, (r.val : Int) = v :=
  ⟨⟨v.toNat, by omega⟩, by simp; omega⟩

/-- R82, R83: a well-formed record is the record of an instruction. -/
theorem exists_toRecord {r : Record} (h : r.WellFormed) : ∃ i : Instr, i.toRecord = r := by
  obtain ⟨op, rd, rs1, rs2, imm⟩ := r
  obtain ⟨hd, h1, h2⟩ := h
  cases op with
  | nop => exact ⟨.nop rd rs1 rs2 imm, rfl⟩
  | bz => exact ⟨.bz rd rs1 rs2 imm, rfl⟩
  | bnz => exact ⟨.bnz rd rs1 rs2 imm, rfl⟩
  | halt => exact ⟨.halt rd rs1 rs2 imm, rfl⟩
  | add | sub | mul | and | or | xor =>
    obtain ⟨d, rfl⟩ := exists_reg (hd rfl)
    obtain ⟨a, rfl⟩ := exists_reg (h1 rfl)
    obtain ⟨b, rfl⟩ := exists_reg (h2 rfl)
    exact ⟨.ofFields _ d a b imm, ofFields_toRecord ..⟩
  | load =>
    obtain ⟨d, rfl⟩ := exists_reg (hd rfl)
    obtain ⟨a, rfl⟩ := exists_reg (h1 rfl)
    exact ⟨.load d a rs2 imm, rfl⟩
  | store =>
    obtain ⟨a, rfl⟩ := exists_reg (h1 rfl)
    obtain ⟨b, rfl⟩ := exists_reg (h2 rfl)
    exact ⟨.store rd a b imm, rfl⟩
  | movc =>
    obtain ⟨d, rfl⟩ := exists_reg (hd rfl)
    exact ⟨.movc d rs1 rs2 imm, rfl⟩
  | jump =>
    obtain ⟨a, rfl⟩ := exists_reg (h1 rfl)
    exact ⟨.jump rd a rs2 imm, rfl⟩

/-- Settles O7: validation either finds a first bad field, which it names, or answers the instruction whose
record it was given. -/
theorem recordValidation : Obligations.RecordValidation := by
  intro r
  refine ⟨⟨fun ⟨_, h⟩ => wellFormed_of_toInstr h, toInstr_ok⟩, fun i h => ?_, fun f v h => ?_⟩
  · obtain ⟨j, rfl⟩ := exists_toRecord (wellFormed_of_toInstr h)
    rw [Except.ok.inj ((toInstr_toRecord j).symm.trans h)]
  · have hbad : ¬ r.WellFormed := fun hr => by
      obtain ⟨i, hi⟩ := toInstr_ok hr
      cases h.symm.trans hi
    obtain ⟨g, hg⟩ := exists_firstBadField hbad
    cases h.symm.trans (toInstr_of_firstBadField hg)
    exact ⟨hg.used, rfl, hg.bad, hg.before⟩

end Sys2Proof.Machine
end

section
/-! PROOFS. The fields an opcode ignores have no effect (30_encoding.md, R83): `forget` puts 0 into them, and every
operation commutes with it, because none reads them. -/

namespace Sys2Proof.Machine

/-! ### What is left of an instruction, a latch and a state -/

section
variable (i : Instr) (l : Latch) (s : State)

@[simp] theorem forgetInstr_op : (forgetInstr i).op = i.op := by cases i <;> rfl
@[simp] theorem destOf_forgetInstr : destOf (forgetInstr i) = destOf i := by cases i <;> rfl
@[simp] theorem isLoadOf_forgetInstr (r : Reg) : isLoadOf (forgetInstr i) r = isLoadOf i r := by cases i <;> rfl

/-- R85: 0 has a five-bit form, and so has a register an opcode uses. -/
theorem forgetInstr_wellFormed : (forgetInstr i).WellFormed := by
  have zero : InRegRange 0 := by decide
  cases i with
  | nop | bz | bnz | halt => exact ⟨zero, zero, zero⟩
  | add | sub | mul | and | or | xor => exact ⟨inRegRange_reg _, inRegRange_reg _, inRegRange_reg _⟩
  | load => exact ⟨inRegRange_reg _, inRegRange_reg _, zero⟩
  | store => exact ⟨zero, inRegRange_reg _, inRegRange_reg _⟩
  | movc => exact ⟨inRegRange_reg _, zero, zero⟩
  | jump => exact ⟨zero, inRegRange_reg _, zero⟩

@[simp] theorem forgetLatch_instr : (forgetLatch l).instr = forgetInstr l.instr := rfl
@[simp] theorem forgetLatch_pc : (forgetLatch l).pc = l.pc := rfl
@[simp] theorem forgetLatch_rs1Value : (forgetLatch l).rs1Value = l.rs1Value := rfl
@[simp] theorem forgetLatch_rs2Value : (forgetLatch l).rs2Value = l.rs2Value := rfl
@[simp] theorem forgetLatch_memAddress : (forgetLatch l).memAddress = l.memAddress := rfl
@[simp] theorem forgetLatch_buffer : (forgetLatch l).buffer = l.buffer := rfl
@[simp] theorem forgetLatch_busy : (forgetLatch l).busy = l.busy := rfl
@[simp] theorem forgetLatch_stalled : (forgetLatch l).stalled = l.stalled := rfl
@[simp] theorem forgetLatch_frozen : (forgetLatch l).frozen = l.frozen := by simp [Latch.frozen]
@[simp] theorem forgetLatch_frozenBubble : forgetLatch frozenBubble = frozenBubble := rfl
@[simp] theorem writerOf_forgetLatch : writerOf (forgetLatch l) = writerOf l := by simp [writerOf]

@[simp] theorem forget_status : (forget s).status = s.status := rfl
@[simp] theorem forget_params : (forget s).params = s.params := rfl
@[simp] theorem forget_config : (forget s).config = s.config := rfl
@[simp] theorem forget_imem : (forget s).imem = s.imem.map forgetSlot := rfl
@[simp] theorem forget_regs : (forget s).regs = s.regs := rfl
@[simp] theorem forget_valid : (forget s).valid = s.valid := rfl
@[simp] theorem forget_fwd : (forget s).fwd = s.fwd := rfl
@[simp] theorem forget_z : (forget s).z = s.z := rfl
@[simp] theorem forget_dmem : (forget s).dmem = s.dmem := rfl
@[simp] theorem forget_pc : (forget s).pc = s.pc := rfl
@[simp] theorem forget_cyc : (forget s).cyc = s.cyc := rfl
@[simp] theorem forget_done : (forget s).done = s.done := rfl
@[simp] theorem forget_latchF : (forget s).latchF = forgetLatch s.latchF := rfl
@[simp] theorem forget_latchD : (forget s).latchD = forgetLatch s.latchD := rfl
@[simp] theorem forget_latchX : (forget s).latchX = forgetLatch s.latchX := rfl
@[simp] theorem forget_latchM : (forget s).latchM = forgetLatch s.latchM := rfl
@[simp] theorem forget_latchW : (forget s).latchW = forgetLatch s.latchW := rfl
@[simp] theorem forget_turn : (forget s).turn = s.turn := rfl

@[simp] theorem progLen_forget : (forget s).progLen = s.progLen := List.length_map ..
@[simp] theorem termPc_forget : termPc (forget s) = termPc s := by simp [termPc]
@[simp] theorem endPc_forget : endPc (forget s) = endPc s := by simp [endPc]

end

/-! ### The instruction memory -/

/-- A slot is validated, and a valid one run, without its ignored fields (R83, R84, R88). -/
theorem slotInstr_forgetSlot (k : Nat) (slot : Slot) :
    slotInstr k (forgetSlot slot) = (slotInstr k slot).map forgetInstr := by
  cases slot with
  | packed w =>
    cases hw : decode w with
    | error e => simp [forgetSlot, slotInstr, hw, Except.map]
    | ok i => simp [forgetSlot, slotInstr, hw, Except.map, decodeOfEncode _ (forgetInstr_wellFormed i)]
  | record r =>
    cases hr : r.toInstr with
    | error e => simp [forgetSlot, slotInstr, hr, Except.map]
    | ok i => simp [forgetSlot, slotInstr, hr, Except.map, toInstr_toRecord]

theorem firstFault_forgetSlot (k : Nat) (slots : List Slot) :
    firstFault k (slots.map forgetSlot) = firstFault k slots := by
  induction slots generalizing k with
  | nil => rfl
  | cons slot rest ih =>
    simp only [List.map_cons, firstFault, slotInstr_forgetSlot]
    cases slotInstr k slot with
    | error f => rfl
    | ok i => exact ih (k + 1)

section
variable (s : State)

theorem fetchAt_forget (p : Word) : fetchAt (forget s) p = (fetchAt s p).map forgetInstr := by
  simp only [fetchAt, forget_params, endPc_forget, forget_imem, List.getElem?_map, apply_ite (Except.map forgetInstr)]
  refine ite_congr rfl (fun _ => rfl) fun _ => ite_congr rfl (fun _ => rfl) fun _ =>
    ite_congr rfl (fun _ => rfl) fun _ => ?_
  cases s.imem[((p.toInt - s.params.codeBase) / s.params.insnWidth).toNat]? with
  | none => rfl
  | some slot => exact slotInstr_forgetSlot _ slot

/-! ### The shared operations -/

theorem release_forget (l : Latch) : release (forgetLatch l) (forget s) = forget (release l s) := by
  simp only [release, forgetLatch_busy, forgetLatch_instr, destOf_forgetInstr]
  split <;> rfl

theorem resolveOperand_forget (r : Reg) : resolveOperand (forget s) r = resolveOperand s r := by
  simp only [resolveOperand, forget_latchX, forgetLatch_instr, isLoadOf_forgetInstr]
  rfl

theorem resolveField_forget (f : Option Reg) (v : Word) : resolveField (forget s) f v = resolveField s f v := by
  cases f with
  | none => rfl
  | some r => exact resolveOperand_forget s r

theorem destHazard_forget (d : Option Reg) : destHazard (forget s) d = destHazard s d := by cases d <;> rfl

theorem branchHazard_forget : branchHazard (forget s) = branchHazard s := by simp [branchHazard]

theorem storeValue_forget (r : Reg) : storeValue r (forget s) = storeValue r s := by
  simp only [storeValue, forget_latchM, forgetLatch_instr, isLoadOf_forgetInstr]
  rfl

theorem forwardDecode_forget (v w : Word) (d : Option Reg) :
    forwardDecode v w d (forget s) = forget (forwardDecode v w d s) := by
  cases d <;> rfl

theorem decodeTurn_forget (q : Sources) (d : Option Reg) (h : Bool) :
    decodeTurn q d h (forget s) = forget (decodeTurn q d h s) := by
  unfold decodeTurn
  rw [apply_ite forget]
  refine ite_congr rfl (fun _ => rfl) fun _ => ?_
  simp only [resolveField_forget, destHazard_forget, forget_latchD, forgetLatch_rs1Value, forgetLatch_rs2Value,
    forwardDecode_forget]
  split
  · rw [apply_ite forget]; rfl
  · rfl
  · rfl

theorem decodeNop_forget : decodeNop (forget s) = forget (decodeNop s) := by
  unfold decodeNop; rw [apply_ite forget]; rfl

theorem releaseFetch_forget : releaseFetch (forget s) = forget (releaseFetch s) := by
  unfold releaseFetch; rw [apply_ite forget]; rfl

theorem fetchTurn_forget (i : Instr) : fetchTurn (forgetInstr i) (forget s) = forget (fetchTurn i s) := by
  unfold fetchTurn; rw [apply_ite forget]; rfl

theorem memoryBranch_forget (taken : Bool) (imm : Word) :
    memoryBranch taken imm (forget s) = forget (memoryBranch taken imm s) := by
  cases taken with
  | false => rfl
  | true =>
    exact congrArg (fun t => advanceMemory (flushYounger t))
      (release_forget (setPc (addWrap s.latchM.pc imm) s) s.latchX)

theorem jumpMemory_forget : jumpMemory (forget s) = forget (jumpMemory s) := by
  have hD := release_forget (setPc s.latchM.buffer s) s.latchD
  have hX := release_forget (release s.latchD (setPc s.latchM.buffer s)) s.latchX
  exact congrArg (fun t => advanceMemory (flushYounger t)) ((congrArg (release (forgetLatch s.latchX)) hD).trans hX)

theorem loadMemory_forget (rd : Reg) : loadMemory rd (forget s) = mapNext forget (loadMemory rd s) := by
  have h : dataIndex (forget s) s.latchM.memAddress = dataIndex s s.latchM.memAddress := rfl
  simp only [loadMemory, forget_latchM, forgetLatch_memAddress, h]
  split <;> rfl

theorem storeMemory_forget : storeMemory (forget s) = mapNext forget (storeMemory s) := by
  have h : dataIndex (forget s) s.latchM.memAddress = dataIndex s s.latchM.memAddress := rfl
  simp only [storeMemory, forget_latchM, forgetLatch_memAddress, h]
  split <;> rfl

/-! ### Each stage's turn of each instruction -/

theorem exec_decode_forget (i : Instr) :
    exec (forgetInstr i) (forget { s with turn := .decode }) = mapNext forget (exec i { s with turn := .decode }) := by
  have turn (q : Sources) (d : Option Reg) (h : Bool) := decodeTurn_forget { s with turn := .decode } q d h
  have branch := branchHazard_forget { s with turn := .decode }
  cases i with
  | nop => exact congrArg _ (decodeNop_forget { s with turn := .decode })
  | bz | bnz => exact congrArg _ ((congrArg (decodeTurn _ _ · _) branch).trans (turn ..))
  | _ => exact congrArg _ (turn ..)

theorem exec_execute_forget (i : Instr) :
    exec (forgetInstr i) (forget { s with turn := .execute }) =
      mapNext forget (exec i { s with turn := .execute }) := by
  cases i with
  | mul => cases hx : s.latchX.stalled <;> simp [exec, execMul, forgetInstr, hx] <;> rfl
  | store rd rs1 rs2 imm =>
    have value := storeValue_forget { s with turn := .execute } rs1
    simp only [exec, forgetInstr, execStore, forget_turn, value]
    rfl
  | _ => rfl

theorem exec_memory_forget (i : Instr) :
    exec (forgetInstr i) (forget { s with turn := .memory }) = mapNext forget (exec i { s with turn := .memory }) := by
  cases i with
  | load => exact loadMemory_forget ..
  | store => exact storeMemory_forget ..
  | bz | bnz => exact congrArg _ (memoryBranch_forget ..)
  | jump => exact congrArg _ (jumpMemory_forget ..)
  | _ => rfl

/-! ### The stages, a tick, and a step -/

theorem writebackResult_forget : writebackResult (forget s) = forget (writebackResult s) := by
  have frozenM (c : Prop) [Decidable c] : (if c then frozenBubble else forgetLatch s.latchM) =
      forgetLatch (if c then frozenBubble else s.latchM) := (apply_ite forgetLatch c frozenBubble s.latchM).symm
  simp only [writebackResult, forget_latchW, forget_latchM, writerOf_forgetLatch, forgetLatch_instr, forgetInstr_op,
    termPc_forget, frozenM]
  rfl

theorem writebackStage_forget : writebackStage (forget s) = mapNext forget (writebackStage s) := by
  rw [writebackStage_eq, writebackStage_eq, writebackResult_forget]
  rfl

theorem memoryStage_forget : memoryStage (forget s) = mapNext forget (memoryStage s) := by
  unfold memoryStage
  rw [apply_ite (mapNext forget)]
  exact ite_congr rfl (fun _ => rfl) fun _ => exec_memory_forget s _

theorem executeStage_forget : executeStage (forget s) = mapNext forget (executeStage s) := by
  unfold executeStage
  rw [apply_ite (mapNext forget)]
  exact ite_congr (by simp) (fun _ => rfl) fun _ => exec_execute_forget s _

theorem decodeStage_forget : decodeStage (forget s) = mapNext forget (decodeStage s) := by
  unfold decodeStage
  rw [apply_ite (mapNext forget)]
  exact ite_congr (by simp) (fun _ => rfl) fun _ => exec_decode_forget s _

theorem fetchStage_forget : fetchStage (forget s) = mapNext forget (fetchStage s) := by
  unfold fetchStage
  rw [apply_ite (mapNext forget), apply_ite (mapNext forget)]
  refine ite_congr rfl (fun _ => rfl) fun _ => ite_congr rfl (fun _ => ?_) fun _ => ?_
  · exact congrArg _ (releaseFetch_forget { s with turn := .fetch })
  · have hfetch : fetchAt { forget s with turn := .fetch } (forget s).pc =
        (fetchAt { s with turn := .fetch } s.pc).map forgetInstr := fetchAt_forget { s with turn := .fetch } s.pc
    rw [hfetch]
    cases fetchAt { s with turn := .fetch } s.pc with
    | error => rfl
    | ok i =>
      have hi := exec_fetch (forgetInstr i) (forget { s with turn := .fetch }) rfl
      rw [fetchTurn_forget] at hi
      exact hi.trans (congrArg (mapNext forget) (exec_fetch i { s with turn := .fetch } rfl)).symm

theorem tick_forget : tick (forget s) = mapNext forget (tick s) :=
  andThen_mapNext (writebackStage_forget s) fun s => andThen_mapNext (memoryStage_forget s) fun s =>
    andThen_mapNext (executeStage_forget s) fun s => andThen_mapNext (decodeStage_forget s) fun s =>
      andThen_mapNext (fetchStage_forget s) fun _ => rfl

theorem launch_forget : launch (forget s) = mapNext forget (launch s) := by
  unfold launch
  rw [apply_ite (mapNext forget), apply_ite (mapNext forget)]
  refine ite_congr (by simp) (fun _ => rfl) fun _ => ite_congr rfl (fun _ => rfl) fun _ => ?_
  simp only [forget_imem, firstFault_forgetSlot]
  split <;> rfl

theorem runLoop_forget : runLoop (forget s) = mapNext forget (runLoop s) := by
  unfold runLoop
  rw [apply_ite (mapNext forget), apply_ite (mapNext forget)]
  exact ite_congr (by simp) (fun _ => rfl) fun _ => ite_congr rfl (fun _ => rfl) fun _ => tick_forget s

end

/-- Settles O55: the launch, the stop tests and every stage of a tick commute with forgetting the ignored fields. -/
theorem ignoredFieldsHaveNoEffect : Obligations.IgnoredFieldsHaveNoEffect := by
  intro s
  cases hs : s.status with
  | launching => rw [step_launching hs, step_launching (s := forget s) hs, launch_forget]
  | running => rw [step_running hs, step_running (s := forget s) hs, runLoop_forget]
  | completed => rw [step_completed hs, step_completed (s := forget s) hs, mapNext_next]
  | budgetExhausted => rw [step_budgetExhausted hs, step_budgetExhausted (s := forget s) hs, mapNext_next]

end Sys2Proof.Machine
end

section
/-! PROOFS. The pipeline (40_pipeline.md): the driver's stops and the order of a tick (R101, R128), the turns of Fetch
and Decode with their hazards (R108 to R111, R118, R120), and a taken transfer (R132). -/

namespace Sys2Proof.Machine

/-! ### The driver and a tick -/

/-- Settles O14: the stop tests of `runLoop` in their order, and a stopped run. -/
theorem driverStops : Obligations.DriverStops := by
  intro s
  refine ⟨fun hs hend => ?_, fun hs hterm hbudget => ?_, step_completed, step_budgetExhausted⟩
  · exact (step_running hs).trans (if_pos hend)
  · exact (step_running hs).trans ((if_neg (not_le.2 hterm)).trans (if_pos hbudget))

section
variable (s : State)

/-- No instruction changes W in its Writeback turn. -/
theorem exec_writeback_latchW (i : Instr) :
    ∃ a, exec i { s with turn := .writeback } = .next a ∧ a.latchW = s.latchW := by
  cases i <;> exact ⟨_, rfl, rfl⟩

/-- R103, R127: Writeback in terms of `exec`, the count read off the latch as it was. -/
theorem writebackStage_exec :
    writebackStage s =
      if s.latchW.busy then .next { s with turn := .writeback }
      else
        andThen (exec s.latchW.instr { s with turn := .writeback }) fun a =>
          .next (if s.latchW.instr.op = .nop then a else { a with done := a.done + 1 }) := by
  refine ite_congr rfl (fun _ => rfl) fun _ => ?_
  obtain ⟨a, ha, hW⟩ := exec_writeback_latchW s s.latchW.instr
  rw [ha, andThen_next, andThen_next, congrArg Latch.instr hW]
  rfl

/-- R103: Memory in terms of `exec`. -/
theorem memoryStage_exec :
    memoryStage s =
      if s.latchM.busy ∨ s.latchM.stalled then .next { s with turn := .memory }
      else exec s.latchM.instr { s with turn := .memory } :=
  ite_congr (by simp) (fun _ => rfl) fun _ => rfl

/-- R103: Execute in terms of `exec`. -/
theorem executeStage_exec :
    executeStage s =
      if s.latchX.busy ∨ (s.latchX.stalled ∧ s.latchX.instr.op = .nop) then .next { s with turn := .execute }
      else exec s.latchX.instr { s with turn := .execute } :=
  ite_congr (by simp [Latch.frozen]) (fun _ => rfl) fun _ => rfl

/-- R103: Decode in terms of `exec`. -/
theorem decodeStage_exec :
    decodeStage s =
      if s.latchD.busy ∨ (s.latchD.stalled ∧ s.latchD.instr.op = .nop) then .next { s with turn := .decode }
      else exec s.latchD.instr { s with turn := .decode } :=
  ite_congr (by simp [Latch.frozen]) (fun _ => rfl) fun _ => rfl

end

/-- Settles O15: a step that is no stop is a tick, each of whose stages gives its latch's instruction to `exec`. -/
theorem tickRunsTheLatches : Obligations.TickRunsTheLatches := by
  intro s h
  rw [step_ticking h]
  simp only [tick, ← writebackStage_exec, ← memoryStage_exec, ← executeStage_exec, ← decodeStage_exec]

/-! ### The turns of Fetch -/

/-- Settles O19: the latches decide which of the turns of `fetchStage_cases` it is. -/
theorem fetchStageTurns : Obligations.FetchStageTurns := by
  intro s f pc'
  rcases fetchStage_cases s with
    ⟨hb, e⟩ | ⟨hb, ⟨hf, hd, e⟩ | ⟨hf, hd, e⟩ | ⟨hf, x, hx, e⟩ | ⟨hf, i, hi, ⟨hd, e⟩ | ⟨hd, e⟩⟩⟩
  · simp [hb, e]
  · simp [hb, hf, hd, e]
  · simp [hb, hf, hd, e]
  · simp [hb, hf, hx, e]
  · simp [hb, hf, hi, hd, e, fetchedLatch, nextPc, f, pc']
  · simp [hb, hf, hi, hd, e, fetchedLatch, nextPc, f, pc']

/-! ### The hazard and forwarding unit -/

section
variable {s : State}

theorem isLoadOf_iff {i : Instr} {r : Reg} : isLoadOf i r = true ↔ i.op = .load ∧ destOf i = some r := by
  cases i <;> simp [isLoadOf, destOf, Instr.op, Instr.toRecord]

theorem isArith_iff {op : Opcode} : isArith op = true ↔ op = .add ∨ op = .sub ∨ op = .mul := by
  cases op <;> simp [isArith]

theorem resolveOperand_of_valid {r : Reg} (hv : isValid s r = true) : resolveOperand s r = .ready (readReg s r) :=
  if_pos hv

theorem resolveOperand_of_load {r : Reg} (hv : isValid s r = false) (hl : isLoadOf s.latchX.instr r = true) :
    resolveOperand s r = .stall := by
  simp [resolveOperand, hv, hl]

theorem resolveOperand_of_forwarding {r : Reg} (hv : isValid s r = false) (hf : s.config.forwarding = true)
    (hl : isLoadOf s.latchX.instr r = false) : resolveOperand s r = .ready (fwdEntry s r) := by
  simp [resolveOperand, hv, hf, hl]

theorem resolveOperand_of_not_forwarding {r : Reg} (hv : isValid s r = false) (hf : s.config.forwarding = false) :
    resolveOperand s r = .stall := by
  simp [resolveOperand, hv, hf]

end

/-- Settles O20: one lemma for each answer of the unit. -/
theorem operandResolution : Obligations.OperandResolution := by
  refine fun s r =>
    ⟨resolveOperand_of_valid, fun hv _ hi hd => ?_, fun hv hf hl => ?_, resolveOperand_of_not_forwarding⟩
  · exact resolveOperand_of_load hv (isLoadOf_iff.2 ⟨hi, hd⟩)
  · exact resolveOperand_of_forwarding hv hf (Bool.eq_false_iff.2 (mt isLoadOf_iff.1 hl))

/-- Settles O21: with forwarding the test is `isArith` of the three latches; without, that D is not stalled. -/
theorem branchZeroHazard : Obligations.BranchZeroHazard := by
  refine fun s => ⟨fun hf => ?_, fun hf => by simp [branchHazard, hf]⟩
  have arith (op : Opcode) : isArith op = true ↔ ∃ o, (o = .add ∨ o = .sub ∨ o = .mul) ∧ op = o := by
    simp [isArith_iff]
  simp only [branchHazard, hf, if_true, Bool.or_eq_true, arith, and_or_left, exists_or, or_assoc]

/-! ### The turn of Decode -/

section
variable {s : State}

/-- R110: whether the opcode has the branch test. -/
def isBranch (op : Opcode) : Bool := decide (op = .bz) || decide (op = .bnz)

/-- R120: the Decode turn of every instruction but NOP is `decodeTurn` with its own sources, destination and branch
test. -/
theorem exec_decode {i : Instr} (hn : i.op ≠ .nop) (hturn : s.turn = .decode) :
    exec i s = .next (decodeTurn (sourcesOf i) (destOf i) (isBranch i.op && branchHazard s) s) := by
  cases i <;>
    simp_all [Instr.op, Instr.toRecord, exec, execAdd, execSub, execMul, execAnd, execOr, execXor, execMovc, execLoad,
      execStore, execBz, execBnz, execJump, execHalt, sourcesOf, destOf, isBranch]

theorem resolveField_eq_stall {f : Option Reg} {held : Word} :
    resolveField s f held = .stall ↔ ∃ r, f = some r ∧ resolveOperand s r = .stall := by
  cases f <;> simp [resolveField]

theorem destHazard_iff {d : Option Reg} : destHazard s d = true ↔ ∃ r, d = some r ∧ isValid s r = false := by
  cases d <;> simp [destHazard]

/-- R120: a source that stalls, a branch hazard or a reserved destination. -/
def DecodeHazard (s : State) (q : Sources) (d : Option Reg) (branch : Bool) : Prop :=
  (∃ r, (q.rs1 = some r ∨ q.rs2 = some r) ∧ resolveOperand s r = .stall) ∨ branch = true ∨
    ∃ r, d = some r ∧ isValid s r = false

theorem decodeTurn_of_stalled {q : Sources} {d : Option Reg} {branch : Bool} (hx : s.latchX.stalled = true) :
    decodeTurn q d branch s = { s with latchD := { s.latchD with stalled := true } } := if_pos hx

/-- R120: with X free, a hazard holds the instruction. -/
theorem decodeTurn_of_hazard {q : Sources} {d : Option Reg} {branch : Bool} (hx : s.latchX.stalled = false)
    (hz : DecodeHazard s q d branch) : decodeTurn q d branch s = stallDecode s := by
  rcases decodeTurn_cases s q d branch with ⟨hx', -⟩ | ⟨-, e⟩ | ⟨-, a, b, h1, h2, h3, -⟩
  · exact absurd (hx.symm.trans hx') nofun
  · exact e
  · obtain ⟨hbranch, hdest⟩ := Bool.or_eq_false_iff.1 h3
    rcases hz with ⟨r, hr | hr, hstall⟩ | hb | hd
    · exact absurd (h1.symm.trans (resolveField_eq_stall.2 ⟨r, hr, hstall⟩)) nofun
    · exact absurd (h2.symm.trans (resolveField_eq_stall.2 ⟨r, hr, hstall⟩)) nofun
    · exact absurd (hbranch.symm.trans hb) nofun
    · exact absurd (hdest.symm.trans (destHazard_iff.2 hd)) nofun

theorem resolveField_ready {f : Option Reg} (held : Word) (h : ∀ r, f = some r → resolveOperand s r ≠ .stall) :
    ∃ v, resolveField s f held = .ready v := by
  cases e : resolveField s f held with
  | ready v => exact ⟨v, rfl⟩
  | stall =>
    obtain ⟨r, hr, hstall⟩ := resolveField_eq_stall.1 e
    exact absurd hstall (h r hr)

/-- R120: with X free and no hazard the instruction goes on with its resolved operands. -/
theorem decodeTurn_of_no_hazard {q : Sources} {d : Option Reg} {branch : Bool} (hx : s.latchX.stalled = false)
    (hz : ¬ DecodeHazard s q d branch) :
    ∃ a b, resolveField s q.rs1 s.latchD.rs1Value = .ready a ∧ resolveField s q.rs2 s.latchD.rs2Value = .ready b ∧
      decodeTurn q d branch s = forwardDecode a b d s := by
  obtain ⟨hsources, hbranch, hdest⟩ := (not_or.1 hz).imp_right not_or.1
  obtain ⟨a, ha⟩ := resolveField_ready s.latchD.rs1Value fun r hr hstall => hsources ⟨r, .inl hr, hstall⟩
  obtain ⟨b, hb⟩ := resolveField_ready s.latchD.rs2Value fun r hr hstall => hsources ⟨r, .inr hr, hstall⟩
  have hd : destHazard s d = false := Bool.eq_false_iff.2 (mt destHazard_iff.1 hdest)
  exact ⟨a, b, ha, hb, by simp [decodeTurn, hx, ha, hb, hbranch, hd]⟩

end

/-- Settles O22: the three turns of `decodeTurn`, the operands of the last one being those `resolveField` answers. -/
theorem decodeTurns : Obligations.DecodeTurns := by
  intro i s hn hturn branch hazard
  have hhazard : hazard ↔ DecodeHazard s (sourcesOf i) (destOf i) (isBranch i.op && branchHazard s) := by
    simp [hazard, branch, DecodeHazard, isBranch]
  rw [exec_decode hn hturn, hhazard]
  refine ⟨fun hx => by rw [decodeTurn_of_stalled hx], fun hx hz => by rw [decodeTurn_of_hazard hx hz]; rfl,
    fun hx hz => ?_⟩
  obtain ⟨a, b, ha, hb, e⟩ := decodeTurn_of_no_hazard hx hz
  refine ⟨{ s.latchD with rs1Value := a, rs2Value := b, stalled := false }, ?_, fun r hr => ?_, fun r hr => ?_,
    fun hr => ?_, fun hr => ?_, rfl⟩
  · rw [e]; cases destOf i <;> rfl
  · rwa [hr] at ha
  · rwa [hr] at hb
  · rw [hr] at ha; exact (Operand.ready.inj ha).symm
  · rw [hr] at hb; exact (Operand.ready.inj hb).symm

/-! ### A taken transfer -/

/-- R33: with no writer in X, M or W every register is valid. -/
theorem SingleWriter.isValid_of_idle {s : State} (h : SingleWriter s) (hX : writerOf s.latchX = none)
    (hM : writerOf s.latchM = none) (hW : writerOf s.latchW = none) (r : Reg) : isValid s r = true := by
  have hr := (singleWriter_iff s).1 h r
  rw [claims_of_none hX, claims_of_none hM, claims_of_none hW, reserved] at hr
  by_contra hv
  exact absurd hr (by rw [if_neg (show ¬ s.valid.get r = true from hv)]; decide)

/-- Settles O51: Memory leaves the transfer in W and bubbles behind it, Fetch puts its target's instruction into F and
D, and no writer is left in flight. -/
theorem takenTransferFlushes : Obligations.TakenTransferFlushes := by
  intro s t p h ht hh hr
  obtain ⟨live, hp⟩ := (redirects_iff hh p).1 hr
  have hM : (writebackResult s).latchM = s.latchM := writebackResult_latchM_of_not_halt s hh
  have hdest : destOf s.latchM.instr = none := hM ▸ destOf_of_redirectTarget hp
  have inv := tick_keepsInv h ht.tick
  have k : KeepsInputs s (memoryRedirect (writebackResult s) p) :=
    (writebackStage_keepsInputs (writebackStage_eq s)).trans (memoryRedirect_keepsInputs _ p)
  obtain ⟨i, hi, rfl⟩ := tick_eq_of_redirect (hM ▸ live) hp ht.tick
  have hW : writerOf (writebackResult s).latchM = none := writerOf_of_dest (hM ▸ hdest)
  have valid := inv.singleWriter.isValid_of_idle rfl rfl hW
  refine ⟨valid, hM, rfl, rfl, i, ?_, rfl, rfl⟩
  rw [← k.fetchAt_eq, hi]

end Sys2Proof.Machine
end

section
/-! PROOFS. R133 without a premise on the drain margin (log entry 12). -/

namespace Sys2Proof.Machine

/-- `MOVC R1,#1; ADD R2,R1,R1; NOP; NOP` with no drain slots. -/
def undrained (forwarding : Bool) : LaunchInputs :=
  { params := { Params.reference with drainMargin := 0 }
    config := { Config.reference with forwarding := forwarding }
    imem := [.record ⟨.movc, 1, 0, 0, 1⟩, .record ⟨.add, 2, 1, 1, 0⟩, .record ⟨.nop, 0, 0, 0, 0⟩,
      .record ⟨.nop, 0, 0, 0, 0⟩]
    regs := Vector.replicate 32 0
    z := false
    dmem := [] }

/-- With forwarding PC reaches TERM_PC while the MOVC is still in W. -/
theorem undrained_forwarding_stops : ∃ s, StopsIn (supplied (undrained true)) 6 .completed s ∧ s.done = 0 :=
  ⟨_, ⟨rfl, rfl⟩, rfl⟩

/-- Without it the ADD holds Fetch until the MOVC has committed. -/
theorem undrained_not_forwarding_stops : ∃ s, StopsIn (supplied (undrained false)) 8 .completed s ∧ s.done = 1 :=
  ⟨_, ⟨rfl, rfl⟩, rfl⟩

/-- Refutes O59: with DRAIN_MARGIN = 0 the two runs of `MOVC R1,#1; ADD R2,R1,R1; NOP; NOP` stop with DONE = 0 and 1. -/
theorem not_forwardingEquivalenceAtAnyMargin : ¬ Obligations.ForwardingEquivalenceAtAnyMargin := by
  intro h
  obtain ⟨s, hs, hdone⟩ := undrained_forwarding_stops
  obtain ⟨t, ht, hdone'⟩ := undrained_not_forwarding_stops
  obtain ⟨-, -, -, -, alike⟩ := h (undrained true) 6 8 s t hs ht
  rw [hdone, hdone'] at alike
  exact absurd alike (by decide)

end Sys2Proof.Machine
end

section
/-! PROOFS. The forwarding table (R131): nothing but Decode and a STORE's re-check reads it, and what they read of it is
fixed by the latches. -/

namespace Sys2Proof.Machine

/-- The same machine with another forwarding table. -/
def setFwd (f : Vector Word 32) (s : State) : State := { s with fwd := f }

theorem setFwd_latchD (f : Vector Word 32) (s : State) : (setFwd f s).latchD = s.latchD := rfl

theorem exists_eq_setFwd {s t : State} (h : forgetFwd t = forgetFwd s) : ∃ f, t = setFwd f s :=
  ⟨t.fwd, (congrArg (setFwd t.fwd) h : setFwd t.fwd (forgetFwd t) = setFwd t.fwd (forgetFwd s))⟩

theorem next_forgetFwd {f : Vector Word 32} {s t : State} (h : t = setFwd f s) :
    mapNext forgetFwd (.next t) = mapNext forgetFwd (.next s) := h ▸ rfl

/-- Steps in sequence end alike but for the table when the first does and the second does from where that leads. -/
theorem andThen_forgetFwd {o o' : Result} {g : State → Result} (ho : mapNext forgetFwd o' = mapNext forgetFwd o)
    (hg : ∀ s f, o = .next s → o' = .next (setFwd f s) → mapNext forgetFwd (g (setFwd f s)) = mapNext forgetFwd (g s)) :
    mapNext forgetFwd (andThen o' g) = mapNext forgetFwd (andThen o g) := by
  cases o with
  | next s =>
    cases o' with
    | next t =>
      obtain ⟨f, rfl⟩ := exists_eq_setFwd (Host.Outcome.next.inj ho)
      exact hg s f rfl rfl
    | fault | refused => exact absurd ho nofun
  | fault | refused =>
    cases o' with
    | next => exact absurd ho nofun
    | _ => exact ho

/-! ### The stages that do not depend on the table -/

section
variable (f : Vector Word 32) (s : State)

theorem release_setFwd (l : Latch) : release l (setFwd f s) = setFwd f (release l s) := by
  unfold release; split <;> rfl

theorem memoryBranch_setFwd (taken : Bool) (imm : Word) :
    memoryBranch taken imm (setFwd f s) = setFwd f (memoryBranch taken imm s) := by
  cases taken with
  | false => rfl
  | true =>
    exact congrArg (fun t => advanceMemory (flushYounger t))
      (release_setFwd f (setPc (addWrap s.latchM.pc imm) s) s.latchX)

theorem jumpMemory_setFwd : jumpMemory (setFwd f s) = setFwd f (jumpMemory s) := by
  have hD := release_setFwd f (setPc s.latchM.buffer s) s.latchD
  have hX := release_setFwd f (release s.latchD (setPc s.latchM.buffer s)) s.latchX
  exact congrArg (fun t => advanceMemory (flushYounger t)) ((congrArg (release s.latchX) hD).trans hX)

theorem loadMemory_setFwd (rd : Reg) :
    mapNext forgetFwd (loadMemory rd (setFwd f s)) = mapNext forgetFwd (loadMemory rd s) := by
  have index : dataIndex (setFwd f s) (setFwd f s).latchM.memAddress = dataIndex s s.latchM.memAddress := rfl
  unfold loadMemory
  rw [index]
  cases dataIndex s s.latchM.memAddress <;> rfl

theorem storeMemory_setFwd : mapNext forgetFwd (storeMemory (setFwd f s)) = mapNext forgetFwd (storeMemory s) := by
  have index : dataIndex (setFwd f s) (setFwd f s).latchM.memAddress = dataIndex s s.latchM.memAddress := rfl
  unfold storeMemory
  rw [index]
  cases dataIndex s s.latchM.memAddress <;> rfl

theorem exec_memory_setFwd (i : Instr) :
    mapNext forgetFwd (exec i (setFwd f { s with turn := .memory })) =
      mapNext forgetFwd (exec i { s with turn := .memory }) := by
  cases i with
  | load => exact loadMemory_setFwd ..
  | store => exact storeMemory_setFwd ..
  | bz | bnz => exact next_forgetFwd (memoryBranch_setFwd ..)
  | jump => exact next_forgetFwd (jumpMemory_setFwd ..)
  | _ => rfl

theorem memoryStage_setFwd : mapNext forgetFwd (memoryStage (setFwd f s)) = mapNext forgetFwd (memoryStage s) := by
  simp only [memoryStage, apply_ite (mapNext forgetFwd)]
  exact ite_congr rfl (fun _ => rfl) fun _ => exec_memory_setFwd f s _

theorem releaseFetch_setFwd : releaseFetch (setFwd f s) = setFwd f (releaseFetch s) := by
  unfold releaseFetch; rw [apply_ite (setFwd f)]; rfl

theorem fetchTurn_setFwd (i : Instr) : fetchTurn i (setFwd f s) = setFwd f (fetchTurn i s) := by
  unfold fetchTurn; rw [apply_ite (setFwd f)]; rfl

theorem fetchStage_setFwd : mapNext forgetFwd (fetchStage (setFwd f s)) = mapNext forgetFwd (fetchStage s) := by
  simp only [fetchStage, apply_ite (mapNext forgetFwd)]
  refine ite_congr rfl (fun _ => rfl) fun _ => ite_congr rfl (fun _ => ?_) fun _ => ?_
  · exact next_forgetFwd (releaseFetch_setFwd f { s with turn := .fetch })
  · have hfetch : fetchAt { setFwd f s with turn := .fetch } (setFwd f s).pc =
        fetchAt { s with turn := .fetch } s.pc := rfl
    rw [hfetch]
    cases fetchAt { s with turn := .fetch } s.pc with
    | error => rfl
    | ok i =>
      have hi := exec_fetch i { s with turn := .fetch } rfl
      have hi' := exec_fetch i (setFwd f { s with turn := .fetch }) rfl
      exact (congrArg _ hi').trans ((next_forgetFwd (fetchTurn_setFwd ..)).trans (congrArg _ hi).symm)

/-! ### The stages that read the table -/

/-- Execute reads the table only for a STORE whose value a LOAD in M produces, and there is none (R161). -/
theorem executeStage_setFwd (hv : StoreValueReady s) :
    mapNext forgetFwd (executeStage (setFwd f s)) = mapNext forgetFwd (executeStage s) := by
  simp only [executeStage, apply_ite (mapNext forgetFwd)]
  refine ite_congr rfl (fun _ => rfl) fun _ => ?_
  change mapNext forgetFwd (exec s.latchX.instr _) = mapNext forgetFwd (exec s.latchX.instr _)
  cases hi : s.latchX.instr with
  | mul => cases hx : s.latchX.stalled <;> simp [exec, execMul, setFwd, hx] <;> rfl
  | store rd rs1 rs2 imm =>
    simp only [exec, execStore, storeValue, setFwd, hv rd rs1 rs2 imm hi]
    rfl
  | _ => rfl

variable {f s}

/-- R131: with X copied on, an invalid register that no LOAD in M will write has the buffer of its writer, in M or W, in
the table. -/
theorem fwdEntry_of_invalid (hx : s.latchX.stalled = false) (hw : WritersAfterExecute s) (hf : ForwardsResults s)
    {r : Reg} (hv : isValid s r = false) (hl : isLoadOf s.latchM.instr r = false) :
    fwdEntry s r = if writerOf s.latchM = some r then s.latchM.buffer else s.latchW.buffer := by
  have hsum : claims s.latchM r + claims s.latchW r = 1 := by
    have h := hw r
    rwa [hx, if_neg nofun, Nat.zero_add, reserved, show s.valid.get r = false from hv] at h
  obtain ⟨hW, hM⟩ := hf r
  split_ifs with hwM
  · exact hM hwM hl
  · refine hW ?_
    by_contra hwW
    simp [claims, hwM, hwW] at hsum

/-- So the operands Decode resolves do not depend on the rest of the table. -/
theorem resolveOperand_setFwd (hM : s.latchM.instr = s.latchX.instr) (hx : s.latchX.stalled = false)
    (hw : WritersAfterExecute s) (hf : ForwardsResults s) (hf' : ForwardsResults (setFwd f s)) (r : Reg) :
    resolveOperand (setFwd f s) r = resolveOperand s r := by
  cases hv : isValid s r with
  | true => exact (resolveOperand_of_valid (s := setFwd f s) hv).trans (resolveOperand_of_valid hv).symm
  | false =>
    cases hl : isLoadOf s.latchX.instr r with
    | true => exact (resolveOperand_of_load (s := setFwd f s) hv hl).trans (resolveOperand_of_load hv hl).symm
    | false =>
      cases hfwd : s.config.forwarding with
      | false =>
        exact (resolveOperand_of_not_forwarding (s := setFwd f s) hv hfwd).trans
          (resolveOperand_of_not_forwarding hv hfwd).symm
      | true =>
        have hlM : isLoadOf s.latchM.instr r = false := hM ▸ hl
        have entry := fwdEntry_of_invalid hx hw hf hv hlM
        have entry' := fwdEntry_of_invalid (s := setFwd f s) hx hw hf' hv hlM
        exact (resolveOperand_of_forwarding (s := setFwd f s) hv hfwd hl).trans
          ((congrArg _ (entry'.trans entry.symm)).trans (resolveOperand_of_forwarding hv hfwd hl).symm)

theorem forwardDecode_setFwd (a b : Word) (d : Option Reg) :
    forwardDecode a b d (setFwd f s) = setFwd f (forwardDecode a b d s) := by
  cases d <;> rfl

theorem decodeTurn_setFwd (h : s.latchX.stalled = false → ∀ r, resolveOperand (setFwd f s) r = resolveOperand s r)
    (q : Sources) (d : Option Reg) (branch : Bool) :
    decodeTurn q d branch (setFwd f s) = setFwd f (decodeTurn q d branch s) := by
  unfold decodeTurn
  rw [apply_ite (setFwd f)]
  refine ite_congr rfl (fun _ => rfl) fun hx => ?_
  have field (g : Option Reg) (v : Word) : resolveField (setFwd f s) g v = resolveField s g v := by
    cases g with
    | none => rfl
    | some r => exact h (Bool.eq_false_iff.2 hx) r
  have dest : destHazard (setFwd f s) d = destHazard s d := by cases d <;> rfl
  simp only [field, dest, setFwd_latchD, forwardDecode_setFwd]
  split
  · rw [apply_ite (setFwd f)]; rfl
  · rfl
  · rfl

theorem decodeNop_setFwd : decodeNop (setFwd f s) = setFwd f (decodeNop s) := by
  unfold decodeNop; rw [apply_ite (setFwd f)]; rfl

theorem exec_decode_setFwd (h : s.latchX.stalled = false → ∀ r, resolveOperand (setFwd f s) r = resolveOperand s r)
    (i : Instr) :
    exec i (setFwd f { s with turn := .decode }) = mapNext (setFwd f) (exec i { s with turn := .decode }) := by
  cases i with
  | nop => exact congrArg _ (decodeNop_setFwd (s := { s with turn := .decode }))
  | _ => exact congrArg _ (decodeTurn_setFwd (s := { s with turn := .decode }) h ..)

theorem decodeStage_setFwd (h : s.latchX.stalled = false → ∀ r, resolveOperand (setFwd f s) r = resolveOperand s r) :
    decodeStage (setFwd f s) = mapNext (setFwd f) (decodeStage s) := by
  simp only [decodeStage, apply_ite (mapNext (setFwd f))]
  refine ite_congr rfl (fun _ => rfl) fun _ => ?_
  exact exec_decode_setFwd h _

end

/-! ### A tick and a step -/

/-- What Decode finds in a tick from a state that meets the invariant. -/
structure BeforeDecode (s : State) : Prop where
  latchM : s.latchX.stalled = false → s.latchM.instr = s.latchX.instr
  writers : WritersAfterExecute s
  forwards : ForwardsResults s

section
variable {s : State} {f : Vector Word 32}

theorem Inv.beforeDecode {b c : State} (h : Inv s) (hm : memoryStage (writebackResult s) = .next b)
    (hx : executeStage b = .next c) : BeforeDecode c := by
  have stepM := memoryStage_step hm
  have stepX := executeStage_step hx
  have shapeA := h.shape.writeback
  have shapeB := shapeA.memory stepM
  have writersB := writers_memory stepM shapeA (writers_writeback h.shape h.singleWriter)
  exact ⟨latchM_execute stepX shapeB, writers_execute stepX shapeB writersB,
    forwardsResults_execute stepX shapeB (forwarded_memory stepM shapeA) writersB⟩

theorem Inv.storeValueReady_writeback (h : Inv s) : StoreValueReady (writebackResult s) := by
  by_cases hh : HaltInWriteback s
  · intro rd rs1 rs2 imm _
    rw [writebackResult_latchM_of_halt s hh]
    rfl
  · exact Machine.storeValueReady_writeback hh h.storeValueReady

theorem tick_setFwd (h : Inv s) (h' : Inv (setFwd f s)) :
    mapNext forgetFwd (tick (setFwd f s)) = mapNext forgetFwd (tick s) := by
  have committed : writebackResult (setFwd f s) =
      setFwd (setAt f (writerOf s.latchW) s.latchW.buffer) (writebackResult s) := rfl
  unfold tick
  rw [writebackStage_eq, writebackStage_eq, andThen_next, andThen_next, committed]
  refine andThen_forgetFwd (memoryStage_setFwd _ _) fun b fb hm hm' => ?_
  have value : StoreValueReady b := storeValueReady_memory (memoryStage_step hm) h.storeValueReady_writeback
  refine andThen_forgetFwd (executeStage_setFwd fb b value) fun c fc hx hx' => ?_
  have before := h.beforeDecode hm hx
  have before' := h'.beforeDecode hm' hx'
  have operands (hxs : c.latchX.stalled = false) :=
    resolveOperand_setFwd (before.latchM hxs) hxs before.writers before.forwards before'.forwards
  rw [decodeStage_setFwd operands]
  refine andThen_forgetFwd ?_ fun d fd _ _ => andThen_forgetFwd (fetchStage_setFwd fd d) fun e _ _ _ => rfl
  cases decodeStage c <;> rfl

theorem runLoop_setFwd (h : Inv s) (h' : Inv (setFwd f s)) :
    mapNext forgetFwd (runLoop (setFwd f s)) = mapNext forgetFwd (runLoop s) := by
  simp only [runLoop, apply_ite (mapNext forgetFwd)]
  exact ite_congr rfl (fun _ => rfl) fun _ => ite_congr rfl (fun _ => rfl) fun _ => tick_setFwd h h'

end

/-- Settles O54: the stops do not look at the table; in a tick Memory, Fetch and Writeback do not either, and the
entries that Execute and Decode read are fixed by the invariant. -/
theorem forwardingTableIsNotObservable : Obligations.ForwardingTableIsNotObservable := by
  intro s f h h'
  change mapNext forgetFwd (step (setFwd f s)) = _
  cases hs : s.status with
  | launching => exact absurd hs h.launched.1
  | running => rw [step_running hs, step_running (s := setFwd f s) hs, runLoop_setFwd h h']
  | completed => rw [step_completed hs, step_completed (s := setFwd f s) hs]; rfl
  | budgetExhausted => rw [step_budgetExhausted hs, step_budgetExhausted (s := setFwd f s) hs]; rfl

end Sys2Proof.Machine
end

section
/-! PROOFS. R133 and R222: how far PC has run past END_PC while an instruction is in flight, and so what is still in
flight when a run stops at TERM_PC. -/

namespace Sys2Proof.Machine

/-! ### How far Fetch is ahead of an instruction in flight -/

/-- An instruction in the latch, if it is no NOP, has `x` within `c` slots of width `w`. -/
def Within (w : Nat) (x : Int) (l : Latch) (c : Nat) : Prop := l.instr.op ≠ .nop → x ≤ c * w

section
variable {w : Nat} {x : Int} {l k : Latch} {c d : Nat}

theorem within_of_nop (h : l.instr.op = .nop) : Within w x l c := fun hn => absurd h hn

theorem Within.mono (h : Within w x l c) (hcd : c ≤ d) : Within w x l d := fun hn => by
  have : (c * w : Int) ≤ d * w := by exact_mod_cast Nat.mul_le_mul_right w hcd
  exact (h hn).trans this

theorem Within.of_op (h : Within w x l c) (e : k.instr.op = l.instr.op) : Within w x k c := fun hn => h (e ▸ hn)

/-- Fetch moves PC by one slot. -/
theorem Within.next (h : Within w x l c) : Within w (x + w) l (c + 1) := fun hn => by
  have := h hn
  push_cast
  linarith

end

/-- PC, which is `x` bytes past END_PC, is within one slot of an instruction that D holds, within `c` slots of one in X
and `c + 2` of one in M, MUL's second cycle being one more slot behind. -/
structure Depth (w : Nat) (x : Int) (c : Nat) (s : State) : Prop where
  fetch : s.latchF.stalled = true → Within w x s.latchF 0
  decode : Within w x s.latchD s.latchF.stalled.toNat
  execute : Within w x s.latchX (c + s.latchX.stalled.toNat)
  memory : Within w x s.latchM (c + 2)

/-- `Depth` after Execute: X counts only if it holds its instruction or a HALT has frozen D. -/
structure DepthAfterExecute (w : Nat) (x : Int) (s : State) : Prop where
  fetch : s.latchF.stalled = true → Within w x s.latchF 0
  decode : Within w x s.latchD s.latchF.stalled.toNat
  execute : s.latchX.stalled = true ∨ s.latchD.frozen = true → Within w x s.latchX 1
  memory : Within w x s.latchM (s.latchF.stalled.toNat + 2)

section
variable {w : Nat} {x : Int} {s t : State}

theorem Depth.writeback (h : Depth w x 1 s) (hh : ¬ HaltInWriteback s) : Depth w x 1 (writebackResult s) := by
  obtain ⟨hF, hD, hX, hM⟩ := h
  exact ⟨hF, hD, hX, by rwa [writebackResult_latchM_of_not_halt s hh]⟩

/-- Memory without a transfer leaves the younger latches or freezes X. -/
theorem Depth.memoryStep (h : Depth w x 1 s) (hm : MemoryStep s t)
    (hr : ∀ p, redirectTarget s = some p → ¬ s.latchM.live) : Depth w x 1 t := by
  obtain ⟨hF, hD, hX, hM⟩ := h
  cases hm with
  | idle => exact ⟨hF, hD, hX, hM⟩
  | redirect p live hp => exact absurd live (hr p hp)
  | halt => exact ⟨hF, hD, within_of_nop rfl, hM⟩
  | plain => exact ⟨hF, hD, hX, hM.of_op (congrArg Instr.op (loadedLatch_instr s))⟩

/-- What Memory passes on to W is as far behind PC as it was in M. -/
theorem Depth.within_latchW (h : Depth w x 1 s) (hs : Shape s) (hM : s.latchM.stalled = false) (hm : MemoryStep s t) :
    Within w x t.latchW 3 := by
  cases hm with
  | idle hi =>
    have hb : s.latchM.busy = true := by simpa [hM] using hi
    exact within_of_nop (hs.busyChain.latchW_nop (hs.busyChain.of_latchM_busy hb).2)
  | redirect => exact h.memory
  | halt => exact h.memory
  | plain => exact h.memory.of_op (congrArg Instr.op (loadedLatch_instr s))

/-- R173: Fetch is frozen where Decode is. -/
theorem HaltPhase.latchF_of_frozen (h : HaltPhase s) (hD : s.latchD.frozen = true) : s.latchF = frozenBubble := by
  rcases h with ⟨hD', -⟩ | ⟨hF, -⟩
  · exact absurd (hD.symm.trans hD') nofun
  · exact hF

/-- R173: Fetch is frozen where Execute is. -/
theorem Shape.latchF_of_frozen_execute (hs : Shape s) (hX : s.latchX.frozen = true) : s.latchF = frozenBubble := by
  rcases hs.haltPhase with ⟨-, hne, -⟩ | ⟨hF, -⟩
  · obtain ⟨hXs, hXi⟩ : s.latchX.stalled = true ∧ s.latchX.instr.op = .nop := by simpa [Latch.frozen] using hX
    rcases hs.stalledStages.of_latchX_stalled hXs with e | e
    · exact absurd e hne
    · exact absurd (hXi.symm.trans e) nofun
  · exact hF

theorem Depth.executeStep (h : Depth w x 1 s) (hs : Shape s) (hx : ExecuteStep s t) : DepthAfterExecute w x t := by
  obtain ⟨hF, hD, hX, hM⟩ := h
  cases hx with
  | idle hi =>
    obtain ⟨hXi, hMW⟩ := hs.idle_execute hi
    refine ⟨hF, hD, fun _ => within_of_nop hXi, ?_⟩
    rcases hi with hb | hf
    · exact within_of_nop (hs.busyChain.latchM_nop (hs.busyChain.of_latchX_busy hb).2)
    · rw [show ({ s with turn := .execute } : State).latchF = frozenBubble from hs.latchF_of_frozen_execute hf]
      exact hM
  | hold hb hi hst =>
    refine ⟨hF, hD, fun _ => ?_, within_of_nop rfl⟩
    rw [hst] at hX
    exact hX.of_op rfl
  | halt hb hf hi =>
    have hst := hs.stalledStages.latchX_stalled hf (by simp [hi])
    rw [hst] at hX
    exact ⟨fun _ => within_of_nop rfl, within_of_nop rfl, fun _ => hX, hX.mono (by simp [executeHalt])⟩
  | plain hb hf hi hmul =>
    refine ⟨hF, hD, fun hheld => ?_, (hX.of_op rfl).mono ?_⟩
    · rcases hheld with hst | hDf
      · exact absurd (hst.symm.trans (hs.stalledStages.executedLatch_stalled hf)) nofun
      · rcases hs.haltPhase with ⟨hD', -⟩ | ⟨-, -, ⟨hXi, -⟩ | ⟨hXf, -⟩ | ⟨hXf, -⟩⟩
        · exact absurd (hDf.symm.trans hD') nofun
        · exact absurd hXi hi
        all_goals simp [hXf] at hf
    · have := Bool.toNat_le s.latchX.stalled
      omega

theorem DepthAfterExecute.decodeStep (h : DepthAfterExecute w x s) (hs : Shape s) (hd : DecodeStep s t) :
    Depth w x s.latchF.stalled.toNat t := by
  obtain ⟨hF, hD, hX, hM⟩ := h
  have stalled (hx : s.latchX.stalled = true) : Within w x s.latchX (s.latchF.stalled.toNat + s.latchX.stalled.toNat) :=
    (hX (.inl hx)).mono (by simp [hx])
  cases hd with
  | idle hi =>
    refine ⟨hF, hD, ?_, hM⟩
    rcases hi with hb | hf
    · exact within_of_nop (hs.busyChain.latchX_nop (hs.busyChain.of_latchD_busy hb))
    · exact (hX (.inr hf)).mono (by simp [hs.haltPhase.latchF_of_frozen hf])
  | lost hx => exact ⟨hF, hD, stalled hx, hM⟩
  | copy _ _ hi => exact ⟨hF, hD, within_of_nop hi, hM⟩
  | wait _ _ hx => exact ⟨hF, hD, stalled hx, hM⟩
  | stall => exact ⟨hF, hD, within_of_nop rfl, hM⟩
  | forward a b =>
    refine ⟨by simpa using hF, ?_, ?_, by simpa using hM⟩
    · simpa using hD.of_op (k := (forwardDecode a b (destOf s.latchD.instr) s).latchD) (by simp)
    · simpa using hD.of_op (k := (forwardDecode a b (destOf s.latchD.instr) s).latchX) (by simp)

end

end Sys2Proof.Machine
end

section
/-! PROOFS. The sequential run that both modes follow (R133): where it stops, and that a tick follows it. -/

namespace Sys2Proof.Machine

/-! ### The last fetch of a run -/

/-- R128: the instruction at `a.pc` is a NOP of the drain region whose fetch takes PC to TERM_PC or past it. -/
def Last (env : State) (a : Arch) : Prop :=
  a.status = .going ∧ endPc env ≤ a.pc.toInt ∧ termPc env ≤ (wrap32 (a.pc.toInt + env.params.insnWidth)).toInt

/-- The sequential run from the committed state of `env`. -/
def seqRun (env : State) (k : Nat) : Arch := (seqStep env)^[k] (committed env)

theorem seqRun_succ (env : State) (k : Nat) : seqRun env (k + 1) = seqStep env (seqRun env k) :=
  Function.iterate_succ_apply' ..

/-- A sequential run that has halted stays as it is. -/
theorem seqRun_of_halted {env : State} {j k : Nat} (h : (seqRun env j).status = .halted) (hjk : j ≤ k) :
    seqRun env k = seqRun env j := by
  induction k, hjk using Nat.le_induction with
  | base => rfl
  | succ k _ ih => rw [seqRun_succ, ih, seqStep, h]

section
variable {s : State}

/-- R10, R12: the drain region. -/
theorem termPc_eq (s : State) : termPc s = endPc s + s.params.insnWidth * s.params.drainMargin := by
  simp only [termPc, endPc, Params.termPc, Params.endPc]
  ring

theorem endPc_add_five_le (hmargin : 5 ≤ s.params.drainMargin) : endPc s + 5 * s.params.insnWidth ≤ termPc s := by
  have : (s.params.insnWidth : Int) * 5 ≤ s.params.insnWidth * s.params.drainMargin := by
    exact_mod_cast Nat.mul_le_mul_left _ hmargin
  rw [termPc_eq]
  linarith

/-- R62: past END_PC there are NOPs only. -/
theorem op_of_fetchAt_past_end {p : Word} {i : Instr} (h : fetchAt s p = .ok i) (hp : endPc s ≤ p.toInt) :
    i.op = .nop := by
  obtain ⟨hlo, hgrid⟩ := onGrid_of_fetchAt h
  cases (fetchAt_past_end hlo hgrid hp).symm.trans h
  rfl

theorem Launched.width_pos (h : Launched s) : (1 : Int) ≤ s.params.insnWidth := by
  obtain ⟨-, ⟨hwidth, -⟩, -⟩ := h
  exact_mod_cast hwidth

/-- R10, R62: a slot fetched before END_PC ends there at the latest. -/
theorem slot_le_endPc {p : Word} {i : Instr} (h : fetchAt s p = .ok i) (launched : Launched s)
    (hp : p.toInt < endPc s) : p.toInt + s.params.insnWidth ≤ endPc s := by
  obtain ⟨-, hgrid⟩ := onGrid_of_fetchAt h
  obtain ⟨q, hq⟩ := Int.dvd_of_emod_eq_zero hgrid
  have hend : endPc s = s.params.codeBase + s.params.insnWidth * s.progLen := rfl
  have hw : (0 : Int) < s.params.insnWidth := launched.width_pos
  have hlt : q < s.progLen := by
    by_contra hge
    have := mul_le_mul_of_nonneg_left (not_lt.1 hge) hw.le
    omega
  have := mul_le_mul_of_nonneg_left (Int.add_one_le_of_lt hlt) hw.le
  rw [mul_add, mul_one] at this
  omega

/-- An instruction that discards what is behind it and lets the run go on is a transfer, which counts (R39). -/
theorem seqExec_count_of_dead {i : Instr} {pc : Word} {a : Arch} (dead : (seqExec s i pc a).alive = false)
    (going : (seqExec s i pc a).arch.status = .going) : (seqExec s i pc a).arch.done = a.done + 1 := by
  have transfer {taken : Bool} {target : Word} (h : (Flight.transfer taken target a).alive = false) :
      (Flight.transfer taken target a).arch.done = a.done + 1 := by
    cases taken
    · exact absurd h nofun
    · rfl
  unfold seqExec at dead going ⊢
  cases i with
  | nop | add | sub | mul | and | or | xor | movc => exact absurd dead nofun
  | load =>
    simp only [seqEffect, Flight.load] at dead going ⊢
    split at dead <;> simp_all [Flight.dataFault, Flight.result]
  | store =>
    simp only [seqEffect, Flight.store] at dead going ⊢
    split at dead <;> simp_all [Flight.dataFault]
  | bz | bnz | jump => exact transfer dead
  | halt => exact absurd going nofun

theorem seqExec_nop {i : Instr} (h : i.op = .nop) (pc : Word) (a : Arch) : seqExec s i pc a = ⟨a, true⟩ :=
  seqEffect_nop h ..

end

/-! ### What is in flight between ticks -/

/-- Complete W, M, X, D and a holding F, one after another. -/
def finishAll (s : State) (a : Arch) : Flight :=
  ((((finishW s a).andThen (finishM s)).andThen (finishX s)).andThen (finishYoung s s.latchD)).andThen
    (finishHeld s s.latchF)

/-- What the machine between ticks stands for, and whether an instruction fetched next would count. -/
def pipeFlight (s : State) : Flight := finishAll s (committed s)

section
variable {s t : State}

theorem finishAll_passesOn (s : State) : PassesOn (finishAll s) :=
  ((((finishW_passesOn s).andThen (finishM_passesOn s)).andThen (finishX_passesOn s)).andThen
    (finishYoung_passesOn s _)).andThen (finishHeld_passesOn s _)

theorem pipeFlight_pc (alive : (pipeFlight s).alive = true) : (pipeFlight s).arch.pc = s.pc :=
  (finishAll_passesOn s).pc_of_alive (a := committed s) alive

theorem pipeFlight_status (alive : (pipeFlight s).alive = true) : (pipeFlight s).arch.status = .going :=
  (finishAll_passesOn s).status (committed s) alive

theorem drained_eq (hM : s.latchM.stalled = false) : drained s = (pipeFlight s).arch := drained_of_not_frozen s hM

/-- With only NOPs behind W, completing W is all there is to do. -/
theorem pipeFlight_of_nops (hM : s.latchM.instr.op = .nop) (hX : s.latchX.instr.op = .nop)
    (hD : s.latchD.instr.op = .nop) (hF : s.latchF.stalled = true → s.latchF.instr.op = .nop) :
    pipeFlight s = finishW s (committed s) := by
  have held (a : Arch) : finishHeld s s.latchF a = ⟨a, true⟩ := by
    cases hst : s.latchF.stalled with
    | false => exact finishHeld_of_not_stalled s hst a
    | true => exact finishHeld_nop (hF hst) a
  rw [pipeFlight, finishAll, Flight.andThen_idle held, Flight.andThen_idle (finishYoung_nop hD),
    Flight.andThen_idle (finishX_nop hX), Flight.andThen_idle (finishM_nop hM)]

theorem pipeFlight_writeback (hc : BusyChain s) (hh : ¬ HaltInWriteback s) :
    pipeFlight s = flightAfterWriteback (writebackResult s) := by
  have k : KeepsInputs s (writebackResult s) := ⟨rfl, rfl, rfl⟩
  rw [pipeFlight, finishAll, finishW_committed hc hh, Flight.andThen_alive, flightAfterWriteback,
    k.finishM_eq (writebackResult_latchM_of_not_halt s hh), k.finishX_eq rfl]
  rfl

/-- A taken transfer in M discards all that is behind it. -/
theorem flightAfterWriteback_redirect {p : Word} (hp : redirectTarget s = some p) :
    flightAfterWriteback s = ⟨(committed (memoryRedirect s p)).count, false⟩ := by
  rw [flightAfterWriteback, finishM_redirect hp]
  rfl

/-- Memory without a transfer leaves what is in flight, and what it discards. -/
theorem flight_memory_of_no_transfer (hc : BusyChain s) (hM : s.latchM.stalled = false)
    (hr : ∀ p, redirectTarget s = some p → ¬ s.latchM.live) (h : memoryStage s = .next t) :
    flightAfterWriteback s = flightAfterMemory t := by
  rcases memoryStage_cases s with
    ⟨hi, e⟩ | ⟨hb, hs, ⟨-, -, e⟩ | ⟨p, hp, e⟩ | ⟨hi, e⟩ | ⟨hp, hi, hk, e⟩⟩ <;> cases e.symm.trans h
  · have hb : s.latchM.busy = true := by simpa [hM] using hi
    have hm := finishM_nop (hc.latchM_nop hb) (committed s)
    have hw := finishW_nop (hc.latchW_nop (hc.of_latchM_busy hb).2) (committed s)
    rw [flightAfterWriteback, hm, ← hw]
    rfl
  · exact absurd ⟨hb, hs⟩ (hr p hp)
  · have hW : (memoryHalt s).latchW.instr.op = .halt := hi
    rw [flightAfterWriteback, flightAfterMemory, finishM_halt hi, finishW_halt hW]
    rfl
  · rw [flightAfterWriteback, finishM_committed hp hi hk]
    rfl

/-! ### A tick without a transfer, up to Fetch -/

/-- `Depth` for the parameters and the PC of the state itself. -/
abbrev DepthOk (s : State) : Prop := Depth s.params.insnWidth (s.pc.toInt - endPc s) 1 s

/-- What the older stages of a tick hand to Fetch when none of them moves PC. -/
structure BeforeFetch (s d : State) : Prop where
  inputs : KeepsInputs s d
  pc : d.pc = s.pc
  flight : pipeFlight s = flightAfterDecode d
  latchF_busy : d.latchF.busy = false
  latchM_stalled : d.latchM.stalled = false
  depth : Depth s.params.insnWidth (s.pc.toInt - endPc s) d.latchF.stalled.toNat d
  latchW : Within s.params.insnWidth (s.pc.toInt - endPc s) d.latchW 3

theorem decodeStep_latchF (h : DecodeStep s t) : t.latchF = s.latchF := by
  cases h with
  | forward => simp
  | _ => rfl

theorem decodeStep_latchW (h : DecodeStep s t) : t.latchW = s.latchW := by
  cases h with
  | forward => simp
  | _ => rfl

theorem executeStep_latchW (h : ExecuteStep s t) : t.latchW = s.latchW := by cases h <;> rfl

theorem tick_beforeFetch (h : Inv s) (hM : s.latchM.stalled = false) (hh : ¬ HaltInWriteback s)
    (hr : ∀ p, ¬ Redirects s p) (depth : DepthOk s) (ht : tick s = .next t) :
    ∃ d e, BeforeFetch s d ∧ FetchStep d e ∧ t = { e with cyc := e.cyc + 1 } := by
  obtain ⟨a, b, c, d, e, hw, hm, hx, hd, hf, rfl⟩ := tick_eq_next.1 ht
  have k : KeepsInputs s d := (writebackStage_keepsInputs hw).trans <| (memoryStage_keepsInputs hm).trans <|
    (executeStage_keepsInputs hx).trans (decodeStage_keepsInputs hd)
  cases (writebackStage_eq s).symm.trans hw
  have stalledA : (writebackResult s).latchM.stalled = false := by rwa [writebackResult_latchM_of_not_halt s hh]
  have hrA (p : Word) (hp : redirectTarget (writebackResult s) = some p) : ¬ (writebackResult s).latchM.live :=
    fun live => hr p ((redirects_iff hh p).2 ⟨writebackResult_latchM_of_not_halt s hh ▸ live, hp⟩)
  have stepM := memoryStage_step hm
  have stepX := executeStage_step hx
  have stepD := decodeStage_step hd
  have shapeA := h.shape.writeback
  have shapeB := shapeA.memory stepM
  have shapeC := shapeB.execute stepX
  have valueB := storeValueReady_memory stepM h.storeValueReady_writeback
  have before := h.beforeDecode hm hx
  have stalledB := (latchM_stalled_memory stepM).trans stalledA
  have stalledD : d.latchM.stalled = false :=
    (congrArg _ (decodeStep_latchM stepD)).trans (latchM_stalled_execute stepX shapeB.stalledStages stalledB)
  have depthA := depth.writeback hh
  have depthC := (depthA.memoryStep stepM hrA).executeStep shapeB stepX
  have depthD := depthC.decodeStep shapeC stepD
  have flight := calc
    pipeFlight s = flightAfterWriteback (writebackResult s) := pipeFlight_writeback h.busyChain hh
    _ = flightAfterMemory b := flight_memory_of_no_transfer shapeA.busyChain stalledA hrA hm
    _ = flightAfterExecute c := flight_execute shapeB valueB stepX
    _ = flightAfterDecode d := flight_decode shapeC before.latchM before.writers before.forwards hd
  have hpc : d.pc = s.pc := by
    rw [decodeStep_pc stepD, executeStep_pc stepX, memoryStep_pc stepM fun p live hp => hrA p hp live,
      writebackResult_pc_of_not_halt s hh]
  refine ⟨d, e, ⟨k, hpc, flight, (shapeC.decode stepD).busyChain.1, stalledD, ?_, ?_⟩, fetchStage_step hf, rfl⟩
  · rw [decodeStep_latchF stepD]
    exact depthD
  · rw [decodeStep_latchW stepD, executeStep_latchW stepX]
    exact depthA.within_latchW shapeA stalledA stepM

/-! ### Fetch -/

/-- Fetch leaves what is in flight, though it may fetch what is to be discarded, or adds the instruction at PC to it. -/
inductive FetchFlight (s t : State) : Prop
  | keeps (flight : pipeFlight t = flightAfterDecode s) (pc : t.pc = s.pc ∨ (pipeFlight t).alive = false)
  | adds (i : Instr) (fetched : fetchAt s s.pc = .ok i) (alive : (flightAfterDecode s).alive = true)
      (pc : t.pc = nextPc s)
      (flight : pipeFlight t = seqExec s i s.pc { (flightAfterDecode s).arch with pc := nextPc s })

theorem fetchFlight (hF : s.latchF.busy = false) (h : FetchStep s t) : FetchFlight s t := by
  have fetched {i : Instr} (hf : s.latchF.stalled = false) (hi : fetchAt s s.pc = .ok i) (hpc : t.pc = nextPc s)
      (e : pipeFlight t = (finishOlder s { committed s with pc := nextPc s }).andThen (seqExec s i s.pc)) :
      FetchFlight s t := by
    rw [(finishOlder_passesOn s).pc, ← flightAfterDecode_of_not_held hf, Flight.withPc] at e
    cases alive : (flightAfterDecode s).alive with
    | false =>
      have dead : pipeFlight t = flightAfterDecode s := by
        rw [e, alive, if_neg nofun, Flight.andThen, alive, if_neg nofun]
      exact .keeps dead (.inr (dead ▸ alive))
    | true =>
      rw [alive, if_pos rfl] at e
      exact .adds i hi alive hpc e
  cases h with
  | unprimed hb => exact absurd (hF.symm.trans hb) nofun
  | hold hf hd =>
    refine .keeps ?_ (.inl rfl)
    rw [flightAfterDecode, finishHeld_of_stalled s hd]
    rfl
  | release hb hf hd =>
    refine .keeps ?_ (.inl rfl)
    rw [pipeFlight, finishAll, flightAfterDecode, Flight.andThen_idle (finishHeld_of_not_stalled s hd),
      finishHeld_of_stalled s hf, Flight.andThen_idle (finishHeld_of_not_stalled _ rfl)]
    rfl
  | held i hf hd hi =>
    refine fetched hf hi rfl ?_
    rw [finishOlder, finishHeld_of_stalled s hd]
    rfl
  | push i hf hd hi =>
    refine fetched hf hi rfl ?_
    rw [finishOlder, Flight.andThen_idle (finishHeld_of_not_stalled s hd), pipeFlight, finishAll,
      Flight.andThen_idle (finishHeld_of_not_stalled _ rfl)]
    rfl

/-- Where the instruction at PC is fetched, every latch falls back by one slot. -/
theorem Depth.fetchStep {w : Nat} {x : Int} (h : Depth w x s.latchF.stalled.toNat s) (hF : s.latchF.busy = false)
    (fresh : ∀ i, fetchAt s s.pc = .ok i → i.op ≠ .nop → x + w ≤ 0) (hf : FetchStep s t) :
    (t.pc = s.pc ∧ Depth w x 1 t) ∨ (t.pc = nextPc s ∧ Depth w (x + w) 1 t) := by
  obtain ⟨hFd, hD, hX, hM⟩ := h
  have new {i : Instr} (hi : fetchAt s s.pc = .ok i) : Within w (x + w) (fetchedLatch s i) 0 := fun hn => by
    have := fresh i hi hn
    omega
  cases hf with
  | unprimed hb => exact absurd (hF.symm.trans hb) nofun
  | hold hst hd =>
    rw [hst] at hX hM
    exact .inl ⟨rfl, hFd, hD, hX, hM⟩
  | release hb hst hd =>
    rw [hst] at hX hM
    exact .inl ⟨rfl, nofun, (hFd hst).of_op rfl, hX, hM⟩
  | held i hst hd hi =>
    rw [hst] at hD hX hM
    exact .inr ⟨rfl, fun _ => (new hi).of_op rfl, hD.next, hX.next.mono (by simp), hM.next⟩
  | push i hst hd hi =>
    rw [hst] at hX hM
    exact .inr ⟨rfl, nofun, new hi, hX.next.mono (by simp), hM.next⟩

end

end Sys2Proof.Machine
end

section
/-! PROOFS. The two runs of one launch end alike (R133): a run follows the sequential one tick by tick, and stops where
it stops. -/

namespace Sys2Proof.Machine

/-! ### A tick against the sequential run -/

/-- The tick from `s` to `t` adds the instruction `i`, which the sequential run comes to next. -/
structure Advances (s t : State) (i : Instr) : Prop where
  fetched : fetchAt s (drained s).pc = .ok i
  going : (drained s).status = .going
  pc : t.pc = wrap32 ((drained s).pc.toInt + s.params.insnWidth)
  flight : pipeFlight t = seqExec s i (drained s).pc { drained s with pc := t.pc }

section
variable {s t : State} {i : Instr}

theorem Advances.drained_eq (h : Advances s t i) (hM : t.latchM.stalled = false) :
    drained t = seqStep s (drained s) := by
  rw [Machine.drained_eq hM, h.flight, seqStep, h.going, h.pc]
  simp only [h.fetched]
  rw [← h.going]

/-- A tick in which no HALT commits and no transfer is taken. -/
inductive PlainTick (s t : State) : Prop
  | keeps (flight : pipeFlight t = pipeFlight s) (pc : t.pc = s.pc ∨ (pipeFlight t).alive = false)
  | adds (i : Instr) (adv : Advances s t i) (alive : (pipeFlight s).alive = true)

theorem plainTick_of_fetch {d e : State} (before : BeforeFetch s d) (hM : s.latchM.stalled = false)
    (hf : FetchStep d e) : PlainTick s { e with cyc := e.cyc + 1 } := by
  have hflight : pipeFlight { e with cyc := e.cyc + 1 } = pipeFlight e := rfl
  have hnext : nextPc d = wrap32 (s.pc.toInt + s.params.insnWidth) := by
    rw [nextPc, before.pc, before.inputs.params]
  cases fetchFlight before.latchF_busy hf with
  | keeps flight pc => exact .keeps (flight.trans before.flight.symm) (before.pc ▸ pc)
  | adds i hi alive pc flight =>
    rw [← before.flight] at alive flight
    have hpc : (drained s).pc = s.pc := by rw [Machine.drained_eq hM, pipeFlight_pc alive]
    refine .adds i ⟨?_, ?_, ?_, ?_⟩ alive
    · rw [hpc, ← before.inputs.fetchAt_eq, ← before.pc, hi]
    · rw [Machine.drained_eq hM, pipeFlight_status alive]
    · rw [hpc, ← hnext]; exact pc
    · rw [hflight, flight, Machine.drained_eq hM, pipeFlight_pc alive, before.pc, ← pc]
      exact congrFun (before.inputs.finishYoung_eq { Latch.bubble with instr := i, pc := s.pc }) _

end

/-! ### One more instruction of the sequential run -/

section
variable {s t : State} {a : Arch} {i : Instr} (launched : Launched s) (margin : 5 ≤ s.params.drainMargin)

include launched in
theorem Launched.wrap_next {p : Word} (hp : p.toInt < termPc s) :
    (wrap32 (p.toInt + s.params.insnWidth)).toInt = p.toInt + s.params.insnWidth :=
  wrap32_add_insnWidth_of_ok launched.2.1 hp

include launched margin

/-- Before the last fetch the slot after the one fetched is before TERM_PC. -/
theorem next_lt_termPc (hi : fetchAt s a.pc = .ok i) (going : a.status = .going) (hn : ¬ Last s a) :
    (wrap32 (a.pc.toInt + s.params.insnWidth)).toInt < termPc s := by
  by_cases hp : endPc s ≤ a.pc.toInt
  · exact not_le.1 fun hend => hn ⟨going, hp, hend⟩
  · have hslot := slot_le_endPc hi launched (not_le.1 hp)
    have hterm := endPc_add_five_le margin
    have hwidth := launched.width_pos
    rw [launched.wrap_next (by omega)]
    omega

/-- R222: the instruction before the last fetch is a NOP, or a transfer that discards what was fetched behind it. -/
theorem done_of_last (hi : fetchAt s a.pc = .ok i) {f : Flight}
    (hf : f = seqExec s i a.pc { a with pc := wrap32 (a.pc.toInt + s.params.insnWidth) }) (hlast : Last s f.arch) :
    f.arch.done = a.done + if f.alive then 0 else 1 := by
  obtain ⟨going, hend, hterm⟩ := hlast
  cases alive : f.alive with
  | false => subst hf; exact seqExec_count_of_dead alive going
  | true =>
    by_cases hp : endPc s ≤ a.pc.toInt
    · rw [hf, seqExec_nop (op_of_fetchAt_past_end hi hp)]
      rfl
    · exfalso
      have hpc : f.arch.pc = wrap32 (a.pc.toInt + s.params.insnWidth) := by
        subst hf; exact (seqExec_passesOn s i a.pc).pc_of_alive alive
      have hslot := slot_le_endPc hi launched (not_le.1 hp)
      have hmargin := endPc_add_five_le margin
      have hwidth := launched.width_pos
      have hpc' : f.arch.pc.toInt = a.pc.toInt + s.params.insnWidth := by rw [hpc, launched.wrap_next (by omega)]
      rw [launched.wrap_next (by omega)] at hterm
      omega

end

/-! ### Where a run is in the sequential run -/

section
variable {env s t : State} {k : Nat}

theorem KeepsInputs.endPc_eq (h : KeepsInputs s t) : endPc t = endPc s := by
  rw [endPc, endPc, State.progLen, h.params, h.imem]; rfl

theorem KeepsInputs.last_eq (h : KeepsInputs s t) : Last t = Last s := by
  funext a; rw [Last, h.endPc_eq, h.termPc_eq, h.params]; rfl

/-- The machine stands for the state after `k` instructions of the sequential run, none of which was the last. -/
structure Tracks (env s : State) (k : Nat) : Prop where
  arch : drained s = seqRun env k
  first : ∀ j < k, ¬ Last env (seqRun env j)
  /-- when the last fetch is next, the instruction before it has counted exactly if it is a transfer yet to be taken -/
  count : Last env (seqRun env k) →
    (seqRun env k).done = (seqRun env (k - 1)).done + if (pipeFlight s).alive then 0 else 1

/-- The run is over, and has left what the sequential run leaves after `k` instructions, but for the count of a transfer
whose target is the last slot it fetched from. -/
structure EndsAt (env s : State) (k : Nat) : Prop where
  first : ∀ j < k, ¬ Last env (seqRun env j)
  valid : ∀ r, isValid s r = true
  regs : s.regs = (seqRun env k).regs
  z : s.z = (seqRun env k).z
  dmem : s.dmem = (seqRun env k).dmem
  stop : ((seqRun env k).status = .halted ∧ s.done = (seqRun env k).done) ∨
    (Last env (seqRun env k) ∧ s.done = (seqRun env (k - 1)).done)

/-- A running state before its last tick. -/
structure Going (env s : State) : Prop where
  inv : Inv s
  inputs : KeepsInputs env s
  beforeTerm : s.pc.toInt < termPc s
  depth : DepthOk s
  tracks : ∃ k, Tracks env s k

/-- A state in which the next step stops the run, and nothing changes any more. -/
structure Over (env s : State) : Prop where
  afterTerm : termPc s ≤ s.pc.toInt
  ended : ∃ k, EndsAt env s k

/-- A tick that adds an instruction is the last one exactly if the instruction is the last of the sequential run. -/
theorem Going.advance {i : Instr} (h : Going env s) (margin : 5 ≤ s.params.drainMargin) (inv : Inv t)
    (inputs : KeepsInputs s t) (hM' : t.latchM.stalled = false) (adv : Advances s t i)
    (depth : DepthOk t)
    (atEnd : i.op = .nop → termPc t ≤ t.pc.toInt → (∀ r, isValid t r = true) ∧
      (pipeFlight t).arch = { committed t with done := t.done + if (pipeFlight s).alive then 0 else 1 }) :
    Going env t ∨ Over env t := by
  obtain ⟨k, harch, hfirst, hcount⟩ := h.tracks
  have hlast : Last s = Last env := h.inputs.last_eq
  have hnext : drained t = seqRun env (k + 1) := by
    rw [adv.drained_eq hM', seqRun_succ, harch, h.inputs.seqStep_eq]
  have hfetch : fetchAt s (seqRun env k).pc = .ok i := harch ▸ adv.fetched
  have hflight : pipeFlight t = seqExec s i (seqRun env k).pc
      { seqRun env k with pc := wrap32 ((seqRun env k).pc.toInt + s.params.insnWidth) } := by
    rw [adv.flight, adv.pc, harch]
  by_cases hl : Last env (seqRun env k)
  · right
    obtain ⟨-, hdrain, hend⟩ : Last s (seqRun env k) := hlast ▸ hl
    have hterm : termPc t ≤ t.pc.toInt := by rwa [adv.pc, inputs.termPc_eq, harch]
    have hnop := op_of_fetchAt_past_end hfetch hdrain
    obtain ⟨valid, hcommitted⟩ := atEnd hnop hterm
    rw [hflight, seqExec_nop hnop] at hcommitted
    have hdone := congrArg Arch.done hcommitted
    have hk := hcount hl
    refine ⟨hterm, k, hfirst, valid, (congrArg Arch.regs hcommitted).symm, (congrArg Arch.z hcommitted).symm,
      (congrArg Arch.dmem hcommitted).symm, .inr ⟨hl, ?_⟩⟩
    simp only at hdone
    omega
  · left
    have hterm : t.pc.toInt < termPc t := by
      rw [adv.pc, inputs.termPc_eq, harch]
      exact next_lt_termPc h.inv.launched margin hfetch (harch ▸ adv.going) (hlast ▸ hl)
    refine ⟨inv, h.inputs.trans inputs, hterm, depth, k + 1, hnext, fun j hj => ?_, fun hl' => ?_⟩
    · rcases Nat.lt_succ_iff_lt_or_eq.1 hj with hj | rfl
      · exact hfirst j hj
      · exact hl
    · have e : seqRun env (k + 1) = (pipeFlight t).arch := hnext.symm.trans (drained_eq hM')
      rw [e] at hl' ⊢
      exact done_of_last h.inv.launched margin hfetch hflight (hlast ▸ hl')

end

/-! ### The three kinds of tick -/

section
variable {env s t : State}

/-- R173: a committed HALT ends the run. -/
theorem Going.tick_of_halt (h : Going env s) (ht : TickTo s t) (hh : HaltInWriteback s) : Over env t := by
  obtain ⟨k, harch, hfirst, -⟩ := h.tracks
  have hdrained := drained_of_halt h.inv (h.inv.latchM_not_stalled ht.ticking) hh ht.tick
  have single := (tick_keepsInv h.inv ht.tick).singleWriter
  have hX := (h.inv.haltPhase.frozen_of_halt_in_W hh.2).2.2
  obtain rfl := tick_eq_of_halt h.inv.haltPhase hh ht.tick
  have hM := writebackResult_latchM_of_halt s hh
  have hpc := writebackResult_pc_of_halt s hh
  rw [harch, drained, if_pos hM] at hdrained
  have valid := single.isValid_of_idle (writerOf_of_nop (l := s.latchX) (hX ▸ rfl)) (writerOf_of_nop (hM ▸ rfl))
    (writerOf_of_halt hh.2)
  refine ⟨?_, k, hfirst, valid, congrArg Arch.regs hdrained, congrArg Arch.z hdrained, congrArg Arch.dmem hdrained,
    .inl ⟨(congrArg Arch.status hdrained).symm, congrArg Arch.done hdrained⟩⟩
  rw [hpc, h.inv.launched.termPc_toInt]
  exact le_refl _

theorem Within.op_eq_nop {w : Nat} {x : Int} {l : Latch} {c : Nat} (h : Within w x l c) (hx : c * w < x) :
    l.instr.op = .nop := by
  by_contra hn
  exact absurd (h hn) (not_le.2 hx)

/-- R222: with five drain slots or more, only NOPs are in flight when Fetch reaches TERM_PC by itself. -/
theorem nops_at_termPc (inv : Inv t) (margin : 5 ≤ t.params.drainMargin) (depth : DepthOk t)
    (hW : Within t.params.insnWidth (t.pc.toInt - endPc t) t.latchW 4) (hend : termPc t ≤ t.pc.toInt) :
    (∀ r, isValid t r = true) ∧ pipeFlight t = ⟨committed t, true⟩ := by
  have hmargin := endPc_add_five_le margin
  have hwidth := inv.launched.width_pos
  have nop {l : Latch} {c : Nat} (h : Within t.params.insnWidth (t.pc.toInt - endPc t) l c) (hc : c ≤ 4) :
      l.instr.op = .nop := (h.mono hc).op_eq_nop (by push_cast; omega)
  have hDn := nop depth.decode ((Bool.toNat_le _).trans (by decide))
  have hXn := nop depth.execute ((Nat.add_le_add_left (Bool.toNat_le _) 1).trans (by decide))
  have hMn := nop depth.memory (by decide)
  have hWn := nop hW (by decide)
  refine ⟨inv.singleWriter.isValid_of_idle (writerOf_of_nop hXn) (writerOf_of_nop hMn) (writerOf_of_nop hWn), ?_⟩
  rw [pipeFlight_of_nops hMn hXn hDn fun hF => nop (depth.fetch hF) (by decide), finishW_nop hWn]

/-- In a tick without a transfer PC stays as near to the instructions in flight as `DepthOk` says. -/
theorem depthOk_of_fetch {d e : State} (launched : Launched s) (hterm : s.pc.toInt < termPc s)
    (before : BeforeFetch s d) (inputs : KeepsInputs s t) (hf : FetchStep d e) (ht : t = { e with cyc := e.cyc + 1 }) :
    DepthOk t ∧ Within t.params.insnWidth (t.pc.toInt - endPc t) t.latchW 4 := by
  have fresh (i : Instr) (hi : fetchAt d d.pc = .ok i) (hn : i.op ≠ .nop) :
      s.pc.toInt - endPc s + s.params.insnWidth ≤ 0 := by
    rw [before.inputs.fetchAt_eq, before.pc] at hi
    have := slot_le_endPc hi launched (not_le.1 fun hp => hn (op_of_fetchAt_past_end hi hp))
    omega
  have hWt : t.latchW = d.latchW := by rw [ht]; cases hf <;> rfl
  have hpct : t.pc = e.pc := by rw [ht]
  have depthT {x : Int} (h : Depth s.params.insnWidth x 1 e) : Depth s.params.insnWidth x 1 t := by
    obtain ⟨hF, hD, hX, hM⟩ := h
    subst ht
    exact ⟨hF, hD, hX, hM⟩
  rw [DepthOk, inputs.params, inputs.endPc_eq, hWt, hpct]
  rcases before.depth.fetchStep before.latchF_busy fresh hf with ⟨hpc, he⟩ | ⟨hpc, he⟩ <;> replace he := depthT he
  · rw [hpc, before.pc]
    exact ⟨he, before.latchW.mono (by decide)⟩
  · rw [hpc, nextPc, before.pc, before.inputs.params, launched.wrap_next hterm, add_sub_right_comm]
    exact ⟨he, before.latchW.next⟩

theorem Going.tick_of_plain (h : Going env s) (margin : 5 ≤ s.params.drainMargin) (ht : TickTo s t)
    (hh : ¬ HaltInWriteback s) (hr : ∀ p, ¬ Redirects s p) : Going env t ∨ Over env t := by
  have inv := tick_keepsInv h.inv ht.tick
  have inputs := tick_keepsInputs ht.tick
  have hM := h.inv.latchM_not_stalled ht.ticking
  obtain ⟨d, e, before, hf, rfl⟩ := tick_beforeFetch h.inv hM hh hr h.depth ht.tick
  obtain ⟨depth, hW⟩ := depthOk_of_fetch h.inv.launched h.beforeTerm before inputs hf rfl
  have hM' : e.latchM.stalled = false := by
    have : e.latchM = d.latchM := by cases hf <;> rfl
    rw [this, before.latchM_stalled]
  have atEnd := nops_at_termPc inv (inputs.params ▸ margin) depth hW
  cases plainTick_of_fetch before hM hf with
  | adds i adv alive =>
    refine h.advance margin inv inputs hM' adv depth fun _ hend => ?_
    obtain ⟨valid, hflight⟩ := atEnd hend
    exact ⟨valid, by rw [hflight, alive]; rfl⟩
  | keeps flight pc =>
    obtain ⟨k, harch, hfirst, hcount⟩ := h.tracks
    have hterm : e.pc.toInt < termPc { e with cyc := e.cyc + 1 } := by
      rcases pc with pc | dead
      · have before := h.beforeTerm
        rwa [← inputs.termPc_eq, ← pc] at before
      · by_contra hend
        rw [(atEnd (not_lt.1 hend)).2] at dead
        exact absurd dead nofun
    refine .inl ⟨inv, h.inputs.trans inputs, hterm, depth, k, ?_, hfirst, flight ▸ hcount⟩
    rw [drained_eq (s := { e with cyc := e.cyc + 1 }) hM', flight, ← drained_eq hM, harch]

/-- Completing a transfer that is in W counts it. -/
theorem finishW_of_redirect {u : State} {p : Word} (hp : redirectTarget u = some p) (hW : t.latchW = u.latchM)
    (a : Arch) : finishW t a = ⟨a.count, true⟩ := by
  unfold redirectTarget at hp
  rw [finishW, hW]
  cases hm : u.latchM.instr <;> simp_all [finishCommit, destOf, Instr.op, Instr.toRecord]

/-- R132, R176: a taken transfer discards what is behind it, and the tick adds the instruction at its target. -/
theorem Going.tick_of_transfer (h : Going env s) (margin : 5 ≤ s.params.drainMargin) (ht : TickTo s t)
    (hh : ¬ HaltInWriteback s) {p : Word} (hr : Redirects s p) : Going env t ∨ Over env t := by
  have inv := tick_keepsInv h.inv ht.tick
  have inputs := tick_keepsInputs ht.tick
  obtain ⟨valid, hW, hX, hM', i, hi, hF, hD⟩ := takenTransferFlushes s t p h.inv ht hh hr
  have hpc : t.pc = wrap32 (p.toInt + s.params.insnWidth) := (pcMoves s t h.inv ht).2.1 hh p hr
  obtain ⟨live, hp⟩ := (redirects_iff hh p).1 hr
  have hMa : (writebackResult s).latchM = s.latchM := writebackResult_latchM_of_not_halt s hh
  have before : pipeFlight s = ⟨(committed (memoryRedirect (writebackResult s) p)).count, false⟩ := by
    rw [pipeFlight_writeback h.inv.busyChain hh, flightAfterWriteback_redirect hp]
  have hdrained := (drained_eq (h.inv.latchM_not_stalled ht.ticking)).trans (congrArg Flight.arch before)
  have hcommitted : committed t = { committed (memoryRedirect (writebackResult s) p) with pc := t.pc } := by
    obtain ⟨_, -, e⟩ := tick_eq_of_redirect (hMa ▸ live) hp ht.tick
    rw [e]; rfl
  have after : pipeFlight t = seqExec s i p (committed t).count := by
    rw [pipeFlight, finishAll, finishW_of_redirect hp (hW.trans hMa.symm), Flight.andThen_alive,
      finishM_nop (hM' ▸ rfl), Flight.andThen_alive, finishX_nop (hX ▸ rfl), Flight.andThen_alive, hD, hF,
      Flight.andThen_idle (finishHeld_of_not_stalled _ rfl), inputs.finishYoung_eq]
    rfl
  have adv : Advances s t i := by
    refine ⟨?_, by rw [hdrained]; rfl, ?_, ?_⟩
    · rw [hdrained]; exact hi
    · rw [hdrained]; exact hpc
    · rw [after, hdrained, hcommitted]; rfl
  have depth : DepthOk t := by
    have fresh : Within t.params.insnWidth (t.pc.toInt - endPc t) { Latch.bubble with instr := i, pc := p } 0 := by
      intro hn
      have hslot := slot_le_endPc hi h.inv.launched (not_le.1 fun hend => hn (op_of_fetchAt_past_end hi hend))
      have hmargin := endPc_add_five_le margin
      have hwidth := h.inv.launched.width_pos
      rw [hpc, h.inv.launched.wrap_next (by omega), inputs.endPc_eq]
      omega
    exact ⟨fun hst => by simp [hF] at hst, by rw [hD, hF]; exact fresh, within_of_nop (hX ▸ rfl),
      within_of_nop (hM' ▸ rfl)⟩
  refine h.advance margin inv inputs (hM' ▸ rfl) adv depth fun hnop _ => ⟨valid, ?_⟩
  rw [after, before, seqExec_nop hnop]
  rfl

theorem Going.tick (h : Going env s) (margin : 5 ≤ env.params.drainMargin) (ht : TickTo s t) :
    Going env t ∨ Over env t := by
  have margin : 5 ≤ s.params.drainMargin := h.inputs.params ▸ margin
  by_cases hh : HaltInWriteback s
  · exact .inr (h.tick_of_halt ht hh)
  · by_cases hr : ∃ p, Redirects s p
    · obtain ⟨p, hr⟩ := hr
      exact h.tick_of_transfer margin ht hh hr
    · exact h.tick_of_plain margin ht hh (not_exists.1 hr)

end

/-! ### A run -/

section
variable {env s t : State}

/-- Where a launched run is, if it has not used up its budget: before its last tick, before its stop, or stopped. -/
inductive OnCourse (env s : State) : Prop
  | going (running : s.status = .running) (h : Going env s)
  | ended (running : s.status = .running) (h : Over env s)
  | completed (stopped : s.status = .completed) (h : ∃ k, EndsAt env s k)
  | budgetExhausted (stopped : s.status = .budgetExhausted)

/-- The status plays no part in how a run has ended. -/
theorem EndsAt.withStatus {k : Nat} (h : EndsAt env s k) (st : Status) : EndsAt env { s with status := st } k :=
  ⟨h.first, h.valid, h.regs, h.z, h.dmem, h.stop⟩

theorem OnCourse.step (margin : 5 ≤ env.params.drainMargin) (h : OnCourse env s) (ht : step s = .next t) :
    OnCourse env t := by
  cases h with
  | going running h =>
    rcases runLoop_eq_next.1 (step_running running ▸ ht) with ⟨hend, -⟩ | ⟨-, -, rfl⟩ | ⟨hterm, hbudget, ticked⟩
    · exact absurd h.beforeTerm (not_lt.2 hend)
    · exact .budgetExhausted rfl
    · have hrun : t.status = .running := (tick_commits ticked).1.trans running
      rcases h.tick margin ⟨⟨running, hterm, hbudget⟩, ht⟩ with going | ended
      · exact .going hrun going
      · exact .ended hrun ended
  | ended running h =>
    obtain ⟨k, hk⟩ := h.ended
    rcases runLoop_eq_next.1 (step_running running ▸ ht) with ⟨-, rfl⟩ | ⟨hterm, -⟩ | ⟨hterm, -⟩
    · exact .completed rfl ⟨k, hk.withStatus .completed⟩
    · exact absurd hterm (not_lt.2 h.afterTerm)
    · exact absurd hterm (not_lt.2 h.afterTerm)
  | completed stopped h =>
    cases (step_completed stopped).symm.trans ht
    exact .completed stopped h
  | budgetExhausted stopped =>
    cases (step_budgetExhausted stopped).symm.trans ht
    exact .budgetExhausted stopped

/-- What every step keeps holds at the end of a run. -/
theorem run_keeps {P : State → Prop} (keeps : ∀ s t, P s → step s = .next t → P t) {n : Nat} :
    ∀ {s t : State}, P s → Sys2Proof.core.run n s = .next t → P t := by
  induction n with
  | zero => rintro s t hs ⟨⟩; exact hs
  | succ n ih =>
    intro s t hs hrun
    cases hstep : step s with
    | next u => exact ih (keeps s u hs hstep) (by simpa [Host.Core.run, core, hstep] using hrun)
    | fault f => simp [Host.Core.run, core, hstep] at hrun
    | refused r => simp [Host.Core.run, core, hstep] at hrun

/-! ### The launch -/

/-- R48: the reset meets the invariant: no latch but F is primed, and every register is valid. -/
theorem inv_restart (hparams : ParamsOk s) (hfault : firstFault 0 s.imem = none) : Inv (restart s) := by
  have unprimed : writerOf Latch.unprimed = none := rfl
  have chain : BusyChain (restart s) :=
    ⟨rfl, fun _ => ⟨rfl, rfl⟩, fun _ => ⟨rfl, rfl⟩, fun _ => ⟨rfl, rfl⟩, fun _ => rfl⟩
  refine ⟨⟨nofun, hparams.1, hfault⟩, rfl, chain, ⟨rfl, nofun⟩, ⟨nofun, nofun, rfl⟩,
    .inl ⟨rfl, nofun, rfl, nofun, nofun⟩, ?_, fun r => ⟨nofun, nofun⟩, nofun⟩
  refine (singleWriter_iff _).2 fun r => ?_
  simp [restart, claims, unprimed, reserved, Vector.get]

theorem going_restart (hparams : ParamsOk s) (hfault : firstFault 0 s.imem = none)
    (margin : 5 ≤ s.params.drainMargin) : Going (restart s) (restart s) := by
  have inv := inv_restart hparams hfault
  have flight : pipeFlight (restart s) = ⟨committed (restart s), true⟩ := pipeFlight_of_nops rfl rfl rfl nofun
  have hdrained : drained (restart s) = committed (restart s) := (drained_eq rfl).trans (congrArg Flight.arch flight)
  have hbase : (restart s).pc.toInt < termPc (restart s) := by
    have hmargin : endPc s + 5 * s.params.insnWidth ≤ termPc s := endPc_add_five_le margin
    have hwidth : (1 : Int) ≤ s.params.insnWidth := inv.launched.width_pos
    obtain ⟨-, -, hlo, -, hhi⟩ := hparams.1
    have hterm : s.params.termPc s.progLen = termPc s := rfl
    have hend : endPc s = s.params.codeBase + s.params.insnWidth * s.progLen := rfl
    have : (0 : Int) ≤ s.params.insnWidth * s.progLen := by positivity
    change (wrap32 s.params.codeBase).toInt < termPc s
    rw [wrap32_toInt hlo (by omega)]
    omega
  exact ⟨inv, .refl _, hbase, ⟨nofun, within_of_nop rfl, within_of_nop rfl, within_of_nop rfl⟩, 0, hdrained, nofun,
    fun _ => by rw [flight]; rfl⟩

/-- A launched run that stops with Completed has ended where the sequential run ends. -/
theorem endsAt_of_completed {l : LaunchInputs} {n : Nat} (h : StopsIn (supplied l) n .completed s)
    (margin : 5 ≤ l.params.drainMargin) : ∃ k, EndsAt (restart (supplied l)) s k := by
  obtain ⟨hrun, hs⟩ := h
  cases n with
  | zero =>
    cases hrun
    exact absurd hs nofun
  | succ n =>
    cases hstep : launch (supplied l) with
    | next u =>
      obtain ⟨hparams, hfault, rfl⟩ := launch_eq_next.1 hstep
      have start : OnCourse (restart (supplied l)) (restart (supplied l)) :=
        .going rfl (going_restart hparams hfault margin)
      have hrun' : Sys2Proof.core.run n (restart (supplied l)) = .next s := by
        simpa [Host.Core.run, core, step_launching (s := supplied l) rfl, hstep] using hrun
      cases run_keeps (fun _ _ => OnCourse.step margin) start hrun' with
      | going running => exact absurd (hs.symm.trans running) nofun
      | ended running => exact absurd (hs.symm.trans running) nofun
      | completed _ h => exact h
      | budgetExhausted stopped => exact absurd (hs.symm.trans stopped) nofun
    | fault f => simp [Host.Core.run, core, step_launching (s := supplied l) rfl, hstep] at hrun
    | refused r => simp [Host.Core.run, core, step_launching (s := supplied l) rfl, hstep] at hrun

/-! ### Two runs -/

/-- A sequential run that comes to its last fetch does not halt. -/
theorem not_halted_of_last {j k : Nat} (first : ∀ i < j, ¬ Last env (seqRun env i))
    (halted : (seqRun env j).status = .halted) : ¬ Last env (seqRun env k) := by
  intro hlast
  rcases lt_or_ge k j with hkj | hjk
  · exact first k hkj hlast
  · rw [seqRun_of_halted halted hjk] at hlast
    exact absurd (halted.symm.trans hlast.1) nofun

/-- Runs that end where one sequential run ends leave the same. -/
theorem EndsAt.agree {j k : Nat} (hs : EndsAt env s j) (ht : EndsAt env t k) :
    s.regs = t.regs ∧ s.valid = t.valid ∧ s.dmem = t.dmem ∧ s.z = t.z ∧ s.done = t.done := by
  have hvalid : s.valid = t.valid := by
    ext i hi
    exact (hs.valid ⟨i, hi⟩).trans (ht.valid ⟨i, hi⟩).symm
  have same (e : seqRun env j = seqRun env k) (hdone : s.done = t.done) :
      s.regs = t.regs ∧ s.valid = t.valid ∧ s.dmem = t.dmem ∧ s.z = t.z ∧ s.done = t.done :=
    ⟨by rw [hs.regs, ht.regs, e], hvalid, by rw [hs.dmem, ht.dmem, e], by rw [hs.z, ht.z, e], hdone⟩
  rcases hs.stop with ⟨hj, hsdone⟩ | ⟨hj, hsdone⟩ <;> rcases ht.stop with ⟨hk, htdone⟩ | ⟨hk, htdone⟩
  · have e : seqRun env j = seqRun env k := by
      rcases le_total j k with hjk | hkj
      · exact (seqRun_of_halted hj hjk).symm
      · exact seqRun_of_halted hk hkj
    exact same e (by rw [hsdone, htdone, e])
  · exact absurd hk (not_halted_of_last hs.first hj)
  · exact absurd hj (not_halted_of_last ht.first hk)
  · obtain rfl : j = k := by
      rcases lt_trichotomy j k with hjk | e | hkj
      · exact absurd hj (ht.first j hjk)
      · exact e
      · exact absurd hk (hs.first k hkj)
    exact same rfl (hsdone.trans htdone.symm)

/-- The sequential run does not read the configuration. -/
theorem EndsAt.withConfig {k : Nat} {c : Config} (h : EndsAt { env with config := c } s k) : EndsAt env s k :=
  ⟨h.first, h.valid, h.regs, h.z, h.dmem, h.stop⟩

end

/-- Settles O58: each of the two runs follows the sequential run of the launch, which does not depend on FORWARDING, and
stops where that one ends: at its HALT, or at the fetch that takes PC to TERM_PC, five drain slots having let everything
in flight complete. -/
theorem forwardingEquivalence : Obligations.ForwardingEquivalence := by
  intro l margin m n s t hs ht
  obtain ⟨j, hj⟩ := endsAt_of_completed hs margin
  obtain ⟨k, hk⟩ := endsAt_of_completed ht margin
  have hj : EndsAt (restart (supplied l)) s j := hj.withConfig
  have hk : EndsAt (restart (supplied l)) t k := hk.withConfig
  exact hj.agree hk

end Sys2Proof.Machine
end

section
/-! PROOFS. ADD, SUB and MUL (41_arithmetic.md): their turns (R140 to R142), and the two ticks of a MUL in Execute
(R142, R120). -/

namespace Sys2Proof.Machine

/-! ### The turns -/

section
variable {s : State} {i : Instr} {rd : Reg}

/-- R140 to R142, R150 to R153: an instruction that leaves Execute with its result publishes it in Memory. -/
theorem exec_memory_of_publishedBy (hd : publishedBy i = some rd) (h : s.turn = .memory) :
    exec i s = .next (memoryPublish rd s) := by
  cases i <;>
    simp_all [publishedBy, destOf, Instr.op, Instr.toRecord, exec, execAdd, execSub, execMul, execAnd, execOr, execXor,
      execMovc]

/-- R140 to R142: an arithmetic instruction commits its result and sets Z by it. -/
theorem exec_writeback_of_arith (hi : isArith i.op = true) (hd : destOf i = some rd) (h : s.turn = .writeback) :
    exec i s = .next (writebackArith rd s) := by
  cases i <;> simp_all [isArith, destOf, Instr.op, Instr.toRecord, exec, execAdd, execSub, execMul]

theorem exec_execute_add (rs1 rs2 : Reg) (imm : Word) (h : s.turn = .execute) :
    exec (.add rd rs1 rs2 imm) s = .next (executeArith rd (addWrap s.latchX.rs1Value s.latchX.rs2Value) s) := by
  simp [exec, execAdd, h]

theorem exec_execute_sub (rs1 rs2 : Reg) (imm : Word) (h : s.turn = .execute) :
    exec (.sub rd rs1 rs2 imm) s = .next (executeArith rd (subWrap s.latchX.rs1Value s.latchX.rs2Value) s) := by
  simp [exec, execSub, h]

theorem exec_execute_mul_first (rs1 rs2 : Reg) (imm : Word) (hx : s.latchX.stalled = false) (h : s.turn = .execute) :
    exec (.mul rd rs1 rs2 imm) s = .next (mulFirstCycle s) := by
  simp [exec, execMul, h, hx]

theorem exec_execute_mul_second (rs1 rs2 : Reg) (imm : Word) (hx : s.latchX.stalled = true) (h : s.turn = .execute) :
    exec (.mul rd rs1 rs2 imm) s = .next (mulSecondCycle rd s) := by
  simp [exec, execMul, h, hx]

end

/-- Settles O23: its Execute turn is `executeArith` of the sum, its later turns are those of every arithmetic
instruction. -/
theorem addRuns : Obligations.AddRuns :=
  fun _ rs1 rs2 imm _ => ⟨rfl, rfl, rfl, exec_execute_add rs1 rs2 imm, exec_memory_of_publishedBy rfl,
    exec_writeback_of_arith rfl rfl⟩

/-- Settles O24: as ADD, with the difference. -/
theorem subRuns : Obligations.SubRuns :=
  fun _ rs1 rs2 imm _ => ⟨rfl, rfl, rfl, exec_execute_sub rs1 rs2 imm, exec_memory_of_publishedBy rfl,
    exec_writeback_of_arith rfl rfl⟩

/-- Settles O25: X's stalled bit tells the two Execute cycles apart. -/
theorem mulRuns : Obligations.MulRuns :=
  fun _ rs1 rs2 imm _ => ⟨rfl, rfl, rfl, exec_execute_mul_first rs1 rs2 imm, exec_execute_mul_second rs1 rs2 imm,
    exec_memory_of_publishedBy rfl, exec_writeback_of_arith rfl rfl⟩

/-! ### The two ticks of a MUL in Execute -/

section
variable {s t : State}

/-- Memory leaves X and D as they are unless M takes a transfer or holds a HALT (R170 to R173). -/
theorem memoryStep_younger (h : MemoryStep s t) (hr : ∀ p, s.latchM.live → redirectTarget s ≠ some p)
    (hi : s.latchM.instr.op ≠ .halt) : t.latchX = s.latchX ∧ t.latchD = s.latchD := by
  cases h with
  | idle => exact ⟨rfl, rfl⟩
  | redirect p live hp => exact absurd hp (hr p live)
  | halt _ hi' => exact absurd hi' hi
  | plain => exact ⟨rfl, rfl⟩

theorem ExecuteStep.eq_of_mul_first (h : ExecuteStep s t) (hb : s.latchX.busy = false) (hi : s.latchX.instr.op = .mul)
    (hx : s.latchX.stalled = false) : t = executeMulHold s := by
  cases h with
  | idle h => simp [hb, hx, Latch.frozen] at h
  | hold => rfl
  | halt _ _ hi' => simp [hi] at hi'
  | plain _ _ _ hmul => exact absurd (hx.symm.trans (hmul hi)) nofun

theorem ExecuteStep.eq_of_mul_second (h : ExecuteStep s t) (hb : s.latchX.busy = false) (hi : s.latchX.instr.op = .mul)
    (hx : s.latchX.stalled = true) : t = executePlain s := by
  cases h with
  | idle h => simp [hb, hi, Latch.frozen] at h
  | hold _ _ hx' => simp [hx] at hx'
  | halt _ _ hi' => simp [hi] at hi'
  | plain => rfl

/-- R142: MUL's second cycle hands on what its first has put into X. -/
theorem executedLatch_of_mul (hi : s.latchX.instr.op = .mul) : executedLatch s = { s.latchX with stalled := false } := by
  cases e : s.latchX.instr <;>
    simp_all [executedLatch, executedValue, executedAddress, executedBuffer, Instr.op, Instr.toRecord]

/-- R120: while X is stalled Decode leaves it, and holds its own instruction. -/
theorem decodeStage_of_stalled (hx : s.latchX.stalled = true) (h : decodeStage s = .next t) :
    t.latchX = s.latchX ∧
      (s.latchD.busy = false → s.latchD.instr.op ≠ .nop → t.latchD = { s.latchD with stalled := true }) := by
  rcases decodeStage_cases s with
    ⟨hi, e⟩ | ⟨-, -, ⟨hi, -, e⟩ | ⟨-, hx', -⟩ | ⟨-, -, e⟩ | ⟨-, hx', -⟩ | ⟨-, hx', -⟩⟩
  · cases e.symm.trans h
    exact ⟨rfl, fun hb hn => by simp [hb, hn, Latch.frozen] at hi⟩
  · cases e.symm.trans h
    exact ⟨rfl, fun _ hn => absurd hi hn⟩
  · exact absurd (hx.symm.trans hx') nofun
  · cases e.symm.trans h
    exact ⟨rfl, fun _ _ => rfl⟩
  · exact absurd (hx.symm.trans hx') nofun
  · exact absurd (hx.symm.trans hx') nofun

theorem fetchStep_latchX (h : FetchStep s t) : t.latchX = s.latchX := by cases h <;> rfl

theorem fetchStep_latchM (h : FetchStep s t) : t.latchM = s.latchM := by cases h <;> rfl

/-- R118: Fetch does not push into a stalled D. -/
theorem fetchStep_latchD_of_stalled (h : FetchStep s t) (hd : s.latchD.stalled = true) : t.latchD = s.latchD := by
  cases h with
  | release _ _ hd' => simp [hd] at hd'
  | push _ _ hd' => simp [hd] at hd'
  | _ => rfl

/-- R173: with anything but a HALT or a frozen bubble in X, no HALT is further on. -/
theorem HaltPhase.not_halt_of_latchX (h : HaltPhase s) (hi : s.latchX.instr.op ≠ .halt) (hx : s.latchX ≠ frozenBubble) :
    s.latchM.instr.op ≠ .halt ∧ s.latchW.instr.op ≠ .halt := by
  rcases h with ⟨-, -, -, hM, hW⟩ | ⟨-, -, ⟨hX, -⟩ | ⟨hX, -⟩ | ⟨hX, -⟩⟩
  · exact ⟨hM, hW⟩
  · exact absurd hX hi
  · exact absurd hX hx
  · exact absurd hX hx

/-- A MUL in X that no older transfer flushes is there, with D as it was, when Execute's turn comes. -/
theorem Inv.mul_before_execute {b : State} (h : Inv s) (hi : s.latchX.instr.op = .mul) (hr : ∀ p, ¬ Redirects s p)
    (hm : MemoryStep (writebackResult s) b) : b.latchX = s.latchX ∧ b.latchD = s.latchD := by
  obtain ⟨hM, hW⟩ := h.haltPhase.not_halt_of_latchX (by simp [hi]) (ne_frozenBubble_of_op (by simp [hi]))
  have hh : ¬ HaltInWriteback s := fun hh => hW hh.2
  have eM := writebackResult_latchM_of_not_halt s hh
  have kept := memoryStep_younger hm (fun p live hp => hr p ((redirects_iff hh p).2 ⟨eM ▸ live, hp⟩)) (eM ▸ hM)
  exact kept

end

/-- Settles O41: Memory leaves the MUL in X; in its first tick Execute stalls X, which holds Decode, and a stalled D holds
Fetch; in its second Execute copies it to M, which the younger stages leave. -/
theorem mulTakesTwoExecuteTicks : Obligations.MulTakesTwoExecuteTicks := by
  intro s t h ht hi hr
  obtain ⟨a, b, c, d, e, hw, hm, hx, hd, hf, rfl⟩ := tick_eq_next.1 ht.tick
  cases (writebackStage_eq s).symm.trans hw
  obtain ⟨hX, hD⟩ := h.mul_before_execute hi hr (memoryStage_step hm)
  have stepX := executeStage_step hx
  have stepF := fetchStage_step hf
  have live : s.latchX.busy = false := by
    by_contra hb
    simp [(h.busyChain.of_latchX_busy (by simpa using hb)).1] at hi
  have primed : s.latchD.busy = false := by
    by_contra hb
    simp [h.busyChain.of_latchD_busy (by simpa using hb)] at live
  rw [← hX] at hi live ⊢
  rw [← hD] at primed ⊢
  have latchM : e.latchM = c.latchM := (fetchStep_latchM stepF).trans (decodeStep_latchM (decodeStage_step hd))
  constructor
  · intro hs
    obtain rfl := stepX.eq_of_mul_first live hi hs
    obtain ⟨keepX, holdD⟩ := decodeStage_of_stalled rfl hd
    refine ⟨(fetchStep_latchX stepF).trans keepX, latchM, fun hn => ?_⟩
    have held := holdD primed hn
    exact (fetchStep_latchD_of_stalled stepF (by rw [held])).trans held
  · intro hs
    obtain rfl := stepX.eq_of_mul_second live hi hs
    exact latchM.trans (executedLatch_of_mul hi)

end Sys2Proof.Machine
end

section
/-! PROOFS. AND, OR, XOR and MOVC (42_bitwise_movc.md): their turns (R150 to R153). -/

namespace Sys2Proof.Machine

section
variable {s : State} {i : Instr} {rd : Reg}

/-- R150 to R153, R160: an instruction with a destination that is not an arithmetic one commits its result, and leaves
Z. -/
theorem exec_writeback_of_not_arith (hi : isArith i.op = false) (hd : destOf i = some rd) (h : s.turn = .writeback) :
    exec i s = .next (commit rd s.latchW.buffer s) := by
  cases i <;> simp_all [isArith, destOf, Instr.op, Instr.toRecord, exec, execAnd, execOr, execXor, execLoad, execMovc]

theorem exec_execute_and (rs1 rs2 : Reg) (imm : Word) (h : s.turn = .execute) :
    exec (.and rd rs1 rs2 imm) s = .next (executeLogic rd (s.latchX.rs1Value &&& s.latchX.rs2Value) s) := by
  simp [exec, execAnd, h]

theorem exec_execute_or (rs1 rs2 : Reg) (imm : Word) (h : s.turn = .execute) :
    exec (.or rd rs1 rs2 imm) s = .next (executeLogic rd (s.latchX.rs1Value ||| s.latchX.rs2Value) s) := by
  simp [exec, execOr, h]

theorem exec_execute_xor (rs1 rs2 : Reg) (imm : Word) (h : s.turn = .execute) :
    exec (.xor rd rs1 rs2 imm) s = .next (executeLogic rd (s.latchX.rs1Value ^^^ s.latchX.rs2Value) s) := by
  simp [exec, execXor, h]

theorem exec_execute_movc (rs1 rs2 : Int) (imm : Word) (h : s.turn = .execute) :
    exec (.movc rd rs1 rs2 imm) s = .next (executeLogic rd imm s) := by
  simp [exec, execMovc, h]

end

/-- Settles O26: the three Execute turns are `executeLogic` of the bitwise results, whose bits Lean's library gives; the
later turns are those of every instruction that leaves Execute with its result and does not write Z. -/
theorem bitwiseRuns : Obligations.BitwiseRuns := by
  intro rd rs1 rs2 imm s p hp
  simp only [List.mem_cons, List.not_mem_nil, or_false] at hp
  obtain rfl | rfl | rfl := hp
  · exact ⟨rfl, rfl, rfl, ⟨_, fun _ _ => BitVec.getLsbD_and, exec_execute_and rs1 rs2 imm⟩,
      exec_memory_of_publishedBy rfl, exec_writeback_of_not_arith rfl rfl⟩
  · exact ⟨rfl, rfl, rfl, ⟨_, fun _ _ => BitVec.getLsbD_or, exec_execute_or rs1 rs2 imm⟩,
      exec_memory_of_publishedBy rfl, exec_writeback_of_not_arith rfl rfl⟩
  · exact ⟨rfl, rfl, rfl, ⟨_, fun _ _ => BitVec.getLsbD_xor, exec_execute_xor rs1 rs2 imm⟩,
      exec_memory_of_publishedBy rfl, exec_writeback_of_not_arith rfl rfl⟩

/-- Settles O27: as the bitwise instructions, with the immediate as the result. -/
theorem movcRuns : Obligations.MovcRuns :=
  fun _ rs1 rs2 imm _ => ⟨rfl, rfl, rfl, exec_execute_movc rs1 rs2 imm, exec_memory_of_publishedBy rfl,
    exec_writeback_of_not_arith rfl rfl⟩

end Sys2Proof.Machine
end

section
/-! PROOFS. LOAD and STORE (43_load_store.md): their turns (R160, R161), in range and out of range of the data memory
(R64, R184). -/

namespace Sys2Proof.Machine

section
variable {s : State} {k : Nat}

/-! ### The effective address (R64) -/

theorem dataIndex_of_in_range {a : Word} (ha : a.toInt = k) (hk : k < s.params.dmemWords) : dataIndex s a = some k :=
  dataIndex_eq_some.2 ⟨by omega, by omega⟩

/-! ### The Memory actions -/

theorem loadMemory_of_in_range (rd : Reg) (h : dataIndex s s.latchM.memAddress = some k) :
    loadMemory rd s = .next (memoryPublish rd { s with latchM := { s.latchM with buffer := s.dmem.read k } }) := by
  simp only [loadMemory, h]

theorem loadMemory_of_out_of_range (rd : Reg) (h : dataIndex s s.latchM.memAddress = none) :
    loadMemory rd s = .fault (.dataAddressOutOfRange s.latchM.pc s.latchM.memAddress) := by
  simp only [loadMemory, h, raise]

theorem storeMemory_of_in_range (h : dataIndex s s.latchM.memAddress = some k) :
    storeMemory s = .next (advanceMemory { s with dmem := s.dmem.write k s.latchM.rs1Value }) := by
  simp only [storeMemory, h]

theorem storeMemory_of_out_of_range (h : dataIndex s s.latchM.memAddress = none) :
    storeMemory s = .fault (.dataAddressOutOfRange s.latchM.pc s.latchM.memAddress) := by
  simp only [storeMemory, h, raise]

/-! ### The re-check of the stored value (R161) -/

theorem storeValue_of_load {rs1 : Reg} (hi : s.latchM.instr.op = .load) (hd : destOf s.latchM.instr = some rs1) :
    storeValue rs1 s = fwdEntry s rs1 :=
  if_pos (isLoadOf_iff.2 ⟨hi, hd⟩)

theorem storeValue_of_not_load {rs1 : Reg} (h : ¬ (s.latchM.instr.op = .load ∧ destOf s.latchM.instr = some rs1)) :
    storeValue rs1 s = s.latchX.rs1Value :=
  if_neg (mt isLoadOf_iff.1 h)

/-! ### The turns -/

theorem exec_execute_load (rd rs1 : Reg) (rs2 : Int) (imm : Word) (h : s.turn = .execute) :
    exec (.load rd rs1 rs2 imm) s =
      .next (advanceExecute { s with latchX := { s.latchX with memAddress := addWrap s.latchX.rs1Value imm } }) := by
  simp only [exec, execLoad, h]

theorem exec_memory_load (rd rs1 : Reg) (rs2 : Int) (imm : Word) (h : s.turn = .memory) :
    exec (.load rd rs1 rs2 imm) s = loadMemory rd s := by
  simp only [exec, execLoad, h]

theorem exec_execute_store (rd : Int) (rs1 rs2 : Reg) (imm : Word) (h : s.turn = .execute) :
    exec (.store rd rs1 rs2 imm) s =
      .next (advanceExecute
        { s with
          latchX := { s.latchX with memAddress := addWrap s.latchX.rs2Value imm, rs1Value := storeValue rs1 s } }) := by
  simp only [exec, execStore, h]

theorem exec_memory_store (rd : Int) (rs1 rs2 : Reg) (imm : Word) (h : s.turn = .memory) :
    exec (.store rd rs1 rs2 imm) s = storeMemory s := by
  simp only [exec, execStore, h]

theorem exec_writeback_store (rd : Int) (rs1 rs2 : Reg) (imm : Word) (h : s.turn = .writeback) :
    exec (.store rd rs1 rs2 imm) s = .next s := by
  simp only [exec, execStore, h]

end

/-- Settles O28: Memory reads the word that the address in M names, or faults; Writeback is that of every instruction
with a destination that does not write Z. -/
theorem loadRuns : Obligations.LoadRuns := by
  intro rd rs1 rs2 imm s
  refine ⟨rfl, rfl, rfl, exec_execute_load rd rs1 rs2 imm, fun k ha hk ht => ?_, fun hout ht => ?_,
    exec_writeback_of_not_arith rfl rfl⟩
  · exact (exec_memory_load rd rs1 rs2 imm ht).trans (loadMemory_of_in_range rd (dataIndex_of_in_range ha hk))
  · exact (exec_memory_load rd rs1 rs2 imm ht).trans (loadMemory_of_out_of_range rd (dataIndex_eq_none.2 hout))

/-- Settles O29: Execute carries on `storeValue`, whose test is R161's re-check; the memory that Memory writes is
`Memory.write`, which reads as before but for its own word and keeps the canonical form. -/
theorem storeRuns : Obligations.StoreRuns := by
  intro rd rs1 rs2 imm s hwf
  refine ⟨rfl, rfl, rfl, fun hM ht => ?_, fun hi hd ht => ?_, fun k ha hk => ?_, fun hout ht => ?_,
    exec_writeback_store rd rs1 rs2 imm⟩
  · rw [exec_execute_store rd rs1 rs2 imm ht, storeValue_of_not_load hM]; rfl
  · rw [exec_execute_store rd rs1 rs2 imm ht, storeValue_of_load hi hd]; rfl
  · exact ⟨s.dmem.write k s.latchM.rs1Value, Memory.wf_write k _ hwf, fun a => Memory.read_write _ hwf, fun ht =>
      (exec_memory_store rd rs1 rs2 imm ht).trans (storeMemory_of_in_range (dataIndex_of_in_range ha hk))⟩
  · exact (exec_memory_store rd rs1 rs2 imm ht).trans (storeMemory_of_out_of_range (dataIndex_eq_none.2 hout))

end Sys2Proof.Machine
end

section
/-! PROOFS. BZ, BNZ, JUMP, HALT and NOP (44_control.md): their turns (R170 to R175, R122), and the tick in which a HALT
commits (R173, R221). -/

namespace Sys2Proof.Machine

section
variable {s : State} {i : Instr}

/-! ### Releasing and flushing (R104) -/

/-- R104: a release changes the validity bits alone. -/
theorem release_eq (l : Latch) (s : State) : release l s = { s with valid := releasedValid l s.valid } := by
  unfold release releasedValid
  cases l.busy <;> cases destOf l.instr <;> rfl

/-- R170, R171: the Memory action of a branch that is taken, Z being as its opcode asks. -/
theorem memoryBranch_of_eq {z sense : Bool} (imm : Word) (hz : z = sense) :
    memoryBranch (z == sense) imm s =
      { s with
        pc := addWrap s.latchM.pc imm, valid := releasedValid s.latchX s.valid
        latchF := Latch.bubble, latchD := Latch.bubble, latchX := Latch.bubble, latchW := s.latchM } := by
  rw [memoryBranch, if_pos (beq_iff_eq.2 hz), release_eq]
  rfl

/-- R170, R171: a branch that is not taken only moves on. -/
theorem memoryBranch_of_ne {z sense : Bool} (imm : Word) (hz : z ≠ sense) :
    memoryBranch (z == sense) imm s = advanceMemory s := by
  rw [memoryBranch, if_neg (mt beq_iff_eq.1 hz)]

/-- R172: JUMP's Memory action releases D first, then X. -/
theorem jumpMemory_eq (s : State) :
    jumpMemory s =
      { s with
        pc := s.latchM.buffer, valid := releasedValid s.latchX (releasedValid s.latchD s.valid)
        latchF := Latch.bubble, latchD := Latch.bubble, latchX := Latch.bubble, latchW := s.latchM } := by
  rw [jumpMemory, release_eq, release_eq]
  rfl

/-! ### The turns -/

/-- R170, R171, R174: a branch and a NOP have no Execute action but the move to M. -/
theorem exec_execute_of_moves_on (hi : i.op = .bz ∨ i.op = .bnz ∨ i.op = .nop) (h : s.turn = .execute) :
    exec i s = .next (advanceExecute s) := by
  cases i <;> simp_all [Instr.op, Instr.toRecord, exec, execBz, execBnz, execNop]

/-- R161, R170 to R172, R174: without a destination only a HALT has a Writeback action. -/
theorem exec_writeback_of_no_destination (hd : destOf i = none) (hi : i.op ≠ .halt) (h : s.turn = .writeback) :
    exec i s = .next s := by
  cases i <;> simp_all [destOf, Instr.op, Instr.toRecord, exec, execStore, execBz, execBnz, execJump, execNop]

/-- R175: BZ is taken exactly when Z = 1. -/
theorem exec_memory_bz (rd rs1 rs2 : Int) (imm : Word) (h : s.turn = .memory) :
    exec (.bz rd rs1 rs2 imm) s = .next (memoryBranch (s.z == true) imm s) := by
  simp only [exec, execBz, h, beq_true]

/-- R175: BNZ is taken exactly when Z = 0. -/
theorem exec_memory_bnz (rd rs1 rs2 : Int) (imm : Word) (h : s.turn = .memory) :
    exec (.bnz rd rs1 rs2 imm) s = .next (memoryBranch (s.z == false) imm s) := by
  simp only [exec, execBnz, h, beq_false]

theorem exec_execute_jump (rd : Int) (rs1 : Reg) (rs2 : Int) (imm : Word) (h : s.turn = .execute) :
    exec (.jump rd rs1 rs2 imm) s =
      .next (advanceExecute { s with latchX := { s.latchX with buffer := addWrap s.latchX.rs1Value imm } }) := by
  simp only [exec, execJump, h]

theorem exec_memory_jump (rd : Int) (rs1 : Reg) (rs2 : Int) (imm : Word) (h : s.turn = .memory) :
    exec (.jump rd rs1 rs2 imm) s = .next (jumpMemory s) := by
  simp only [exec, execJump, h]

theorem exec_execute_halt (rd rs1 rs2 : Int) (imm : Word) (h : s.turn = .execute) :
    exec (.halt rd rs1 rs2 imm) s = .next (advanceExecute (freezeFetchDecode s)) := by
  simp only [exec, execHalt, h]

theorem exec_memory_halt (rd rs1 rs2 : Int) (imm : Word) (h : s.turn = .memory) :
    exec (.halt rd rs1 rs2 imm) s = .next (advanceMemory (freezeExecute s)) := by
  simp only [exec, execHalt, h]

theorem exec_writeback_halt (rd rs1 rs2 : Int) (imm : Word) (h : s.turn = .writeback) :
    exec (.halt rd rs1 rs2 imm) s = .next (freezeMemory (setPc (wrap32 (termPc s)) s)) := by
  simp only [exec, execHalt, h]

theorem exec_decode_nop (rd rs1 rs2 : Int) (imm : Word) (h : s.turn = .decode) :
    exec (.nop rd rs1 rs2 imm) s = .next (decodeNop s) := by
  simp only [exec, execNop, h]

theorem exec_memory_nop (rd rs1 rs2 : Int) (imm : Word) (h : s.turn = .memory) :
    exec (.nop rd rs1 rs2 imm) s = .next (advanceMemory s) := by
  simp only [exec, execNop, h]

/-- R122: a NOP is copied into a free X. -/
theorem decodeNop_of_free (hx : s.latchX.stalled = false) : decodeNop s = { s with latchX := s.latchD } :=
  if_neg (by simp [hx])

/-- R122: a NOP under a stalled X goes nowhere. -/
theorem decodeNop_of_stalled (hx : s.latchX.stalled = true) : decodeNop s = s := if_pos hx

end

/-- Settles O30: both are the branch action of Memory, each with its own sense of Z. -/
theorem branchesRun : Obligations.BranchesRun := by
  intro rd rs1 rs2 imm s p hp
  simp only [List.mem_cons, List.not_mem_nil, or_false] at hp
  obtain rfl | rfl := hp
  · exact ⟨rfl, rfl, rfl, exec_execute_of_moves_on (.inl rfl),
      fun hz ht => (exec_memory_bz rd rs1 rs2 imm ht).trans (congrArg _ (memoryBranch_of_eq imm hz)),
      fun hz ht => (exec_memory_bz rd rs1 rs2 imm ht).trans (congrArg _ (memoryBranch_of_ne imm hz)),
      exec_writeback_of_no_destination rfl nofun⟩
  · exact ⟨rfl, rfl, rfl, exec_execute_of_moves_on (.inr (.inl rfl)),
      fun hz ht => (exec_memory_bnz rd rs1 rs2 imm ht).trans (congrArg _ (memoryBranch_of_eq imm hz)),
      fun hz ht => (exec_memory_bnz rd rs1 rs2 imm ht).trans (congrArg _ (memoryBranch_of_ne imm hz)),
      exec_writeback_of_no_destination rfl nofun⟩

/-- Settles O31: Execute carries the target on in `buffer`, and Memory takes it and releases what D and X had
reserved. -/
theorem jumpRuns : Obligations.JumpRuns :=
  fun rd rs1 rs2 imm s => ⟨rfl, rfl, rfl, exec_execute_jump rd rs1 rs2 imm,
    fun ht => (exec_memory_jump rd rs1 rs2 imm ht).trans (congrArg _ (jumpMemory_eq s)),
    exec_writeback_of_no_destination rfl nofun⟩

/-- Settles O32: the three freezes, and TERM_PC as R12 has it. -/
theorem haltRuns : Obligations.HaltRuns :=
  fun rd rs1 rs2 imm _ => ⟨rfl, rfl, rfl, exec_execute_halt rd rs1 rs2 imm, exec_memory_halt rd rs1 rs2 imm,
    exec_writeback_halt rd rs1 rs2 imm⟩

/-- Settles O33: X's stalled bit decides whether Decode passes the NOP on. -/
theorem nopRuns : Obligations.NopRuns :=
  fun rd rs1 rs2 imm _ => ⟨rfl, rfl, rfl,
    fun hx ht => (exec_decode_nop rd rs1 rs2 imm ht).trans (congrArg _ (decodeNop_of_free hx)),
    fun hx ht => (exec_decode_nop rd rs1 rs2 imm ht).trans (congrArg _ (decodeNop_of_stalled hx)),
    exec_execute_of_moves_on (.inr (.inr rfl)), exec_memory_nop rd rs1 rs2 imm,
    exec_writeback_of_no_destination rfl nofun⟩

/-! ### The tick in which a HALT commits -/

section
variable {s : State}

/-- R103: a frozen stage passes its turn. -/
theorem memoryStage_of_frozen (hM : s.latchM = frozenBubble) : memoryStage s = .next { s with turn := .memory } := by
  rw [memoryStage_exec, if_pos (.inr (by simp [hM]))]

theorem executeStage_of_frozen (hX : s.latchX = frozenBubble) : executeStage s = .next { s with turn := .execute } := by
  rw [executeStage_exec, if_pos (.inr (by simp [hX]))]

theorem decodeStage_of_frozen (hD : s.latchD = frozenBubble) : decodeStage s = .next { s with turn := .decode } := by
  rw [decodeStage_exec, if_pos (.inr (by simp [hD]))]

/-- R118: a frozen Fetch fetches nothing, so it has no address to fault on. -/
theorem fetchStage_of_frozen (hF : s.latchF = frozenBubble) (hD : s.latchD = frozenBubble) :
    fetchStage s = .next { s with turn := .fetch } := by
  obtain ⟨-, hold, -⟩ := fetchStageTurns s
  exact hold (by simp [hF]) (by simp [hF]) (by simp [hD])

/-- R127, R173: what a HALT's Writeback leaves. -/
theorem writebackResult_of_halt (hh : HaltInWriteback s) :
    writebackResult s =
      { s with turn := .writeback, done := s.done + 1, pc := wrap32 (termPc s), latchM := frozenBubble } := by
  obtain ⟨hb, hi⟩ := hh
  simp [writebackResult, hb, hi, writerOf_of_halt hi, isArith]

/-- R173: with a HALT in W the younger stages are frozen, so the tick completes with no more than its Writeback. -/
theorem tick_of_halt (hp : HaltPhase s) (hh : HaltInWriteback s) :
    tick s = .next
      { s with
        turn := .fetch, done := s.done + 1, pc := wrap32 (termPc s), latchM := frozenBubble, cyc := s.cyc + 1 } := by
  obtain ⟨hF, hD, hX⟩ := hp.frozen_of_halt_in_W hh.2
  have committed := (writebackStage_eq s).trans (congrArg _ (writebackResult_of_halt hh))
  exact tick_eq_next.2 ⟨_, _, _, _, _, committed, memoryStage_of_frozen rfl, executeStage_of_frozen hX,
    decodeStage_of_frozen hD, fetchStage_of_frozen hF hD, rfl⟩

end

/-- Settles O52: the tick is the HALT's Writeback; it leaves no writer in flight and PC at TERM_PC, where the driver
stops. -/
theorem haltEndsTheRun : Obligations.HaltEndsTheRun := by
  intro s h ticking hh
  obtain ⟨hF, hD, hX⟩ := h.haltPhase.frozen_of_halt_in_W hh.2
  have ht := tick_of_halt h.haltPhase hh
  have hpc := h.launched.termPc_toInt
  have valid := (tick_keepsInv h ht).singleWriter.isValid_of_idle (writerOf_of_nop (l := s.latchX) (hX ▸ rfl))
    writerOf_frozenBubble (writerOf_of_halt hh.2)
  refine ⟨_, (step_ticking ticking).trans ht, rfl, hpc, valid, hF, hD, hX, rfl, rfl, rfl, rfl, ?_⟩
  obtain ⟨completed, -⟩ := driverStops _
  exact completed ticking.running hpc.ge

end Sys2Proof.Machine
end

section
/-! PROOFS. Faults and refusals (60_exceptions.md): which slot a launch names (R182, R183, R188), what can fault in a tick
(R184, R185), that no instruction is refused (R192), what is reported of a fault (R105, R181), and that the counters are
no instruction's business (R193, R196). -/

namespace Sys2Proof.Machine

/-! ### The launch fault -/

/-- R188: validation answers the fault of the first slot it rejects. -/
theorem firstFault_eq_some {slots : List Slot} {n k : Nat} {slot : Slot} {f : Fault}
    (before : ∀ j x, j < k → slots[j]? = some x → SlotOk x) (hk : slots[k]? = some slot)
    (bad : slotInstr (n + k) slot = .error f) : firstFault n slots = some f := by
  induction slots generalizing n k with
  | nil => cases hk
  | cons x rest ih =>
    cases k with
    | zero =>
      obtain rfl : x = slot := Option.some.inj hk
      have bad : slotInstr n x = .error f := bad
      simp only [firstFault, bad]
    | succ k =>
      obtain ⟨i, hi⟩ := slotInstr_ok (before 0 x (Nat.succ_pos k) rfl) n
      have bad : slotInstr (n + 1 + k) slot = .error f := by rwa [Nat.add_assoc, Nat.add_comm 1]
      simp only [firstFault, hi]
      exact ih (fun j y hj => before (j + 1) y (Nat.succ_lt_succ hj)) hk bad

/-- R188: with the parameters in range the launch raises the validation's fault. -/
theorem launch_of_firstFault {s : State} {f : Fault} (hp : ParamsOk s) (hf : firstFault 0 s.imem = some f) :
    launch s = .fault f := by
  obtain ⟨hok, hwindow⟩ := hp
  rw [launch, if_neg (not_not_intro hok), if_neg (not_lt.2 hwindow), hf]
  rfl

theorem slotInstr_of_illegalWord {w : BitVec 64} (h : IllegalWord w) (k : Nat) :
    slotInstr k (.packed w) = .error (.illegalEncoding k w) := by
  obtain ⟨e, he⟩ := (illegalWordsRefused w).2 h
  simp [slotInstr, he]

theorem slotInstr_of_firstBadField {r : Record} {f : RegField} (h : FirstBadField r f) (k : Nat) :
    slotInstr k (.record r) = .error (.boundsError k f (r.field f)) := by
  simp [slotInstr, toInstr_of_firstBadField h]

/-- Settles O9: validation passes over the valid slots, and the fault of slot `k` is that of its word or of its first bad
field. -/
theorem launchFaultsAtFirstBadSlot : Obligations.LaunchFaultsAtFirstBadSlot := by
  intro s k hs hp before
  have faults {slot : Slot} {f : Fault} (hk : s.imem[k]? = some slot) (bad : slotInstr k slot = .error f) :
      step s = .fault f :=
    (step_launching hs).trans
      (launch_of_firstFault hp (firstFault_eq_some before hk ((Nat.zero_add k).symm ▸ bad)))
  exact ⟨fun w hk hw => faults hk (slotInstr_of_illegalWord hw k),
    fun r f hk used bad earlier => faults hk (slotInstr_of_firstBadField ⟨used, bad, earlier⟩ k)⟩

/-! ### Which stages can stop a tick -/

section
variable {s : State} {f : Fault}

/-- Execute never stops the run. -/
theorem executeStage_completes (s : State) : ∃ t, executeStage s = .next t := by
  rcases executeStage_cases s with ⟨-, e⟩ | ⟨-, -, ⟨-, -, e⟩ | ⟨-, e⟩ | ⟨-, -, e⟩⟩ <;> exact ⟨_, e⟩

/-- Decode never stops the run. -/
theorem decodeStage_completes (s : State) : ∃ t, decodeStage s = .next t := by
  rcases decodeStage_cases s with
    ⟨-, e⟩ | ⟨-, -, ⟨-, -, e⟩ | ⟨-, -, e⟩ | ⟨-, -, e⟩ | ⟨-, -, e⟩ | ⟨-, -, _, _, -, e⟩⟩ <;> exact ⟨_, e⟩

/-- R184: Memory faults on a bad access alone. -/
theorem memoryStage_eq_fault (h : memoryStage s = .fault f) :
    BadAccess s ∧ f = .dataAddressOutOfRange s.latchM.pc s.latchM.memAddress := by
  rcases memoryStage_cases s with
    ⟨-, e⟩ | ⟨hb, hs, ⟨hacc, hnone, e⟩ | ⟨_, -, e⟩ | ⟨-, e⟩ | ⟨-, -, -, e⟩⟩ <;> cases e.symm.trans h
  exact ⟨⟨⟨hb, hs⟩, by simpa [accesses] using hacc, dataIndex_eq_none.1 hnone⟩, rfl⟩

theorem memoryStage_ne_refused (s : State) (r : Refusal) : memoryStage s ≠ .refused r := by
  intro h
  rcases memoryStage_cases s with
    ⟨-, e⟩ | ⟨-, -, ⟨-, -, e⟩ | ⟨_, -, e⟩ | ⟨-, e⟩ | ⟨-, -, -, e⟩⟩ <;> cases e.symm.trans h

/-- R185: Fetch faults only where `fetchAt` does. -/
theorem fetchStage_eq_fault (h : fetchStage s = .fault f) : fetchAt s s.pc = .error f := by
  rcases fetchStage_cases s with
    ⟨-, e⟩ | ⟨-, ⟨-, -, e⟩ | ⟨-, -, e⟩ | ⟨-, _, hf, e⟩ | ⟨-, _, -, ⟨-, e⟩ | ⟨-, e⟩⟩⟩ <;> cases e.symm.trans h
  exact hf

theorem fetchStage_ne_refused (s : State) (r : Refusal) : fetchStage s ≠ .refused r := by
  intro h
  rcases fetchStage_cases s with
    ⟨-, e⟩ | ⟨-, ⟨-, -, e⟩ | ⟨-, -, e⟩ | ⟨-, _, -, e⟩ | ⟨-, _, -, ⟨-, e⟩ | ⟨-, e⟩⟩⟩ <;> cases e.symm.trans h

/-- Once Memory has completed, the rest of the tick is up to Fetch. -/
theorem tick_of_memoryStage {b : State} (hm : memoryStage (writebackResult s) = .next b) :
    ∃ c d, executeStage b = .next c ∧ decodeStage c = .next d ∧
      tick s = andThen (fetchStage d) fun e => .next { e with cyc := e.cyc + 1 } := by
  obtain ⟨c, hx⟩ := executeStage_completes b
  obtain ⟨d, hd⟩ := decodeStage_completes c
  refine ⟨c, d, hx, hd, ?_⟩
  rw [tick, writebackStage_eq, andThen_next, hm, andThen_next, hx, andThen_next, hd, andThen_next]

/-- A tick that faults does so in its Memory turn, or in its Fetch turn after four complete ones (R101). -/
theorem tick_eq_fault (h : tick s = .fault f) :
    memoryStage (writebackResult s) = .fault f ∨
      ∃ b c d, memoryStage (writebackResult s) = .next b ∧ executeStage b = .next c ∧ decodeStage c = .next d ∧
        fetchStage d = .fault f := by
  cases hm : memoryStage (writebackResult s) with
  | next b =>
    obtain ⟨c, d, hx, hd, e⟩ := tick_of_memoryStage hm
    obtain hf | ⟨_, -, hnext⟩ := andThen_eq_fault.1 (e.symm.trans h)
    · exact .inr ⟨b, c, d, rfl, hx, hd, hf⟩
    · cases hnext
  | fault g =>
    rw [tick, writebackStage_eq, andThen_next, hm, andThen_fault] at h
    exact .inl h
  | refused r => exact absurd hm (memoryStage_ne_refused _ r)

theorem tick_ne_refused (s : State) (r : Refusal) : tick s ≠ .refused r := by
  intro h
  cases hm : memoryStage (writebackResult s) with
  | next b =>
    obtain ⟨c, d, -, -, e⟩ := tick_of_memoryStage hm
    obtain hf | ⟨_, -, hnext⟩ := andThen_eq_refused.1 (e.symm.trans h)
    · exact fetchStage_ne_refused d r hf
    · cases hnext
  | fault g =>
    rw [tick, writebackStage_eq, andThen_next, hm, andThen_fault] at h
    cases h
  | refused r => exact memoryStage_ne_refused _ r hm

end

/-- Settles O44: after the launch a step stops the run, leaves it stopped, or is a tick, no stage of which refuses. -/
theorem noRefusalAfterLaunch : Obligations.NoRefusalAfterLaunch := by
  intro s r hs h
  cases hstatus : s.status with
  | launching => exact hs hstatus
  | running =>
    rw [step_running hstatus, runLoop] at h
    split_ifs at h
    exact tick_ne_refused s r h
  | completed => cases (step_completed hstatus).symm.trans h
  | budgetExhausted => cases (step_budgetExhausted hstatus).symm.trans h

/-! ### The faults of a tick -/

section
variable {s t : State} {p : Word}

theorem slotInstr_ok_of_firstFault {slots : List Slot} {n k : Nat} {slot : Slot} (h : firstFault n slots = none)
    (hk : slots[k]? = some slot) : ∃ i, slotInstr (n + k) slot = .ok i := by
  induction slots generalizing n k with
  | nil => cases hk
  | cons x rest ih =>
    cases hx : slotInstr n x with
    | error f => simp [firstFault, hx] at h
    | ok i =>
      cases k with
      | zero => cases hk; exact ⟨i, hx⟩
      | succ k =>
        obtain ⟨j, hj⟩ := ih (by simpa only [firstFault, hx] using h) hk
        exact ⟨j, by rwa [Nat.add_comm k, ← Nat.add_assoc]⟩

/-- R62: once the program has been validated, a fetch from the grid gives an instruction. -/
theorem fetchAt_of_onGrid (launched : Launched s) (h : OnGrid s p) : ∃ i, fetchAt s p = .ok i := by
  obtain ⟨-, -, valid⟩ := launched
  obtain ⟨hlo, hgrid⟩ := h
  by_cases hend : endPc s ≤ p.toInt
  · exact ⟨_, fetchAt_past_end hlo hgrid hend⟩
  · simp only [fetchAt, if_neg (not_lt.2 hlo), hgrid, ne_eq, not_true, if_false, if_neg hend]
    cases hk : s.imem[((p.toInt - s.params.codeBase) / s.params.insnWidth).toNat]? with
    | none => exact ⟨_, rfl⟩
    | some slot =>
      obtain ⟨i, hi⟩ := slotInstr_ok_of_firstFault valid hk
      exact ⟨i, by rwa [Nat.zero_add] at hi⟩

/-- R185: the two faults of a fetch, each on its own condition. -/
theorem fetchAt_eq_error {f : Fault} (launched : Launched s) (h : fetchAt s p = .error f) :
    (f = .fetchOutOfRange p ∧ p.toInt < s.params.codeBase) ∨
      (f = .fetchMisaligned p ∧ s.params.codeBase ≤ p.toInt ∧
        (p.toInt - s.params.codeBase) % s.params.insnWidth ≠ 0) := by
  by_cases hlo : p.toInt < s.params.codeBase
  · exact .inl ⟨(Except.error.inj ((fetchAt_below hlo).symm.trans h)).symm, hlo⟩
  · have hlo := not_lt.1 hlo
    by_cases hgrid : (p.toInt - s.params.codeBase) % s.params.insnWidth = 0
    · obtain ⟨i, hi⟩ := fetchAt_of_onGrid launched ⟨hlo, hgrid⟩
      cases hi.symm.trans h
    · exact .inr ⟨(Except.error.inj ((fetchAt_off_grid hlo hgrid).symm.trans h)).symm, hlo, hgrid⟩

/-- R170 to R172: Memory leaves PC at the target of the transfer it takes, and otherwise where it was. -/
theorem MemoryStep.pc_cases (h : MemoryStep s t) :
    (s.latchM.live ∧ redirectTarget s = some t.pc) ∨ t.pc = s.pc := by
  cases h with
  | redirect p live hp => exact .inl ⟨live, hp⟩
  | _ => exact .inr rfl

end

/-- Settles O43: no tick faults with a HALT in W; otherwise Memory faults, or Fetch does, at the target of the transfer
that Memory took or at PC, which is then off the grid and so has wrapped. -/
theorem onlyTheseFaults : Obligations.OnlyTheseFaults := by
  intro s f h hpc ticking hstep
  have ht : tick s = .fault f := (step_ticking ticking).symm.trans hstep
  have hh : ¬ HaltInWriteback s := fun hh => by cases (tick_of_halt h.haltPhase hh).symm.trans ht
  have hM := writebackResult_latchM_of_not_halt s hh
  rcases tick_eq_fault ht with hm | ⟨b, c, d, hm, hx, hd, hf⟩
  · obtain ⟨bad, hf⟩ := memoryStage_eq_fault hm
    rw [BadAccess, hM] at bad
    rw [hM] at hf
    exact .inl ⟨bad, hf⟩
  · have k : KeepsInputs s d := (writebackStage_keepsInputs (writebackStage_eq s)).trans <|
      (memoryStage_keepsInputs hm).trans <| (executeStage_keepsInputs hx).trans (decodeStage_keepsInputs hd)
    have pc : d.pc = b.pc := (decodeStep_pc (decodeStage_step hd)).trans (executeStep_pc (executeStage_step hx))
    have error : fetchAt s b.pc = .error f := by rw [← pc, ← k.fetchAt_eq]; exact fetchStage_eq_fault hf
    refine .inr ⟨b.pc, ?_, fetchAt_eq_error h.launched error⟩
    rcases (memoryStage_step hm).pc_cases with ⟨live, hp⟩ | hpcM
    · exact .inl ((redirects_iff hh b.pc).2 ⟨hM ▸ live, hp⟩)
    · have hpcM : b.pc = s.pc := hpcM.trans (writebackResult_pc_of_not_halt s hh)
      refine .inr ⟨hpcM, hpc.resolve_left fun onGrid => ?_⟩
      obtain ⟨i, hi⟩ := fetchAt_of_onGrid h.launched onGrid
      cases hi.symm.trans (hpcM ▸ error)

/-! ### The report after a fault -/

section
variable {s : State} {f : Fault}

/-- R181: the status port shows the fault of the step from the state. -/
theorem statusPort_of_fault (h : step s = .fault f) : statusPort s = some (.stopped (.fault f)) := by
  simp [statusPort, h]

theorem reportPort_of_tick_fault (hs : s.status = .running) (h : step s = .fault f) :
    reportPort s = some (reportOf s (.fault f)) := by
  simp [reportPort, statusPort_of_fault h, hs]

theorem reportPort_of_launch_fault (hs : s.status = .launching) (h : step s = .fault f) :
    reportPort s = some (reportOf (restart s) (.fault f)) := by
  simp [reportPort, statusPort_of_fault h, hs]

end

/-- Settles O45: the report is of the state itself, or of its reset, which keeps the launch inputs. -/
theorem reportAfterFault : Obligations.ReportAfterFault :=
  ⟨fun _ _ => reportPort_of_tick_fault, fun _ _ => reportPort_of_launch_fault rfl⟩

/-! ### The counters

`setCounters` changes what no turn reads, so every turn commutes with it: where the turn does not branch, by unfolding. -/

section
variable (c d : Nat) (s : State)

theorem fetchTurn_setCounters (i : Instr) : fetchTurn i (setCounters c d s) = setCounters c d (fetchTurn i s) := by
  unfold fetchTurn; rw [apply_ite (setCounters c d)]; rfl

theorem decodeNop_setCounters : decodeNop (setCounters c d s) = setCounters c d (decodeNop s) := by
  unfold decodeNop; rw [apply_ite (setCounters c d)]; rfl

theorem resolveField_setCounters : resolveField (setCounters c d s) = resolveField s := by
  funext field held
  cases field <;> rfl

theorem destHazard_setCounters : destHazard (setCounters c d s) = destHazard s := by
  funext dest
  cases dest <;> rfl

theorem forwardDecode_setCounters (a b : Word) (dest : Option Reg) :
    forwardDecode a b dest (setCounters c d s) = setCounters c d (forwardDecode a b dest s) := by
  cases dest <;> rfl

theorem decodeTurn_setCounters (q : Sources) (dest : Option Reg) (branch : Bool) :
    decodeTurn q dest branch (setCounters c d s) = setCounters c d (decodeTurn q dest branch s) := by
  simp only [decodeTurn, resolveField_setCounters, destHazard_setCounters, setCounters_latchD, setCounters_latchX,
    forwardDecode_setCounters]
  split
  · rfl
  · split
    · split <;> rfl
    · rfl
    · rfl

theorem memoryBranch_setCounters (taken : Bool) (imm : Word) :
    memoryBranch taken imm (setCounters c d s) = setCounters c d (memoryBranch taken imm s) := by
  cases taken with
  | false => rfl
  | true => simp only [memoryBranch, release_eq]; rfl

theorem jumpMemory_setCounters : jumpMemory (setCounters c d s) = setCounters c d (jumpMemory s) := by
  rw [jumpMemory_eq, jumpMemory_eq]; rfl

theorem dataIndex_setCounters : dataIndex (setCounters c d s) = dataIndex s := rfl

theorem loadMemory_setCounters (rd : Reg) :
    loadMemory rd (setCounters c d s) = mapNext (setCounters c d) (loadMemory rd s) := by
  simp only [loadMemory, dataIndex_setCounters, setCounters_latchM]
  split <;> rfl

theorem storeMemory_setCounters : storeMemory (setCounters c d s) = mapNext (setCounters c d) (storeMemory s) := by
  simp only [storeMemory, dataIndex_setCounters, setCounters_latchM]
  split <;> rfl

/-! Each stage's turn of each instruction. -/

theorem exec_fetch_setCounters (i : Instr) :
    exec i (setCounters c d { s with turn := .fetch }) = mapNext (setCounters c d) (exec i { s with turn := .fetch }) := by
  rw [exec_fetch i _ rfl, exec_fetch i _ rfl, fetchTurn_setCounters, mapNext_next]

theorem exec_decode_setCounters (i : Instr) :
    exec i (setCounters c d { s with turn := .decode }) =
      mapNext (setCounters c d) (exec i { s with turn := .decode }) := by
  cases i with
  | nop => exact congrArg _ (decodeNop_setCounters ..)
  | _ => exact congrArg _ (decodeTurn_setCounters ..)

theorem exec_execute_setCounters (i : Instr) :
    exec i (setCounters c d { s with turn := .execute }) =
      mapNext (setCounters c d) (exec i { s with turn := .execute }) := by
  cases i with
  | mul => simp only [exec, execMul, mapNext_next, apply_ite (setCounters c d)]; rfl
  | _ => rfl

theorem exec_memory_setCounters (i : Instr) :
    exec i (setCounters c d { s with turn := .memory }) =
      mapNext (setCounters c d) (exec i { s with turn := .memory }) := by
  cases i with
  | load => exact loadMemory_setCounters ..
  | store => exact storeMemory_setCounters ..
  | bz => exact congrArg _ (memoryBranch_setCounters ..)
  | bnz => exact congrArg _ (memoryBranch_setCounters ..)
  | jump => exact congrArg _ (jumpMemory_setCounters ..)
  | _ => rfl

theorem exec_writeback_setCounters (i : Instr) :
    exec i (setCounters c d { s with turn := .writeback }) =
      mapNext (setCounters c d) (exec i { s with turn := .writeback }) := by
  cases i <;> rfl

theorem exec_turn_setCounters (st : Stage) (i : Instr) :
    exec i (setCounters c d { s with turn := st }) = mapNext (setCounters c d) (exec i { s with turn := st }) := by
  cases st with
  | fetch => exact exec_fetch_setCounters c d s i
  | decode => exact exec_decode_setCounters c d s i
  | execute => exact exec_execute_setCounters c d s i
  | memory => exact exec_memory_setCounters c d s i
  | writeback => exact exec_writeback_setCounters c d s i

end

/-- Settles O60: every turn commutes with a change of the counters, and neither trace form shows what was changed. -/
theorem countersAreOnlyReported : Obligations.CountersAreOnlyReported :=
  fun i s c d => ⟨exec_turn_setCounters c d s s.turn i, rfl, rfl⟩

end Sys2Proof.Machine
end

section
/-! PROOFS. Reset and start-up (70_reset_and_hazards.md): how the stages prime (R203, R41). -/

namespace Sys2Proof.Machine

/-! ### Which latches are primed after each stage's turn -/

section
variable {s t : State}

theorem BusyChain.latchM_primed (h : BusyChain s) (hW : s.latchW.busy = false) : s.latchM.busy = false :=
  Bool.eq_false_iff.2 fun hb => absurd (hW.symm.trans (h.of_latchM_busy hb).2) nofun

theorem BusyChain.latchX_primed (h : BusyChain s) (hM : s.latchM.busy = false) : s.latchX.busy = false :=
  Bool.eq_false_iff.2 fun hb => absurd (hM.symm.trans (h.of_latchX_busy hb).2) nofun

theorem BusyChain.latchD_primed (h : BusyChain s) (hX : s.latchX.busy = false) : s.latchD.busy = false :=
  Bool.eq_false_iff.2 fun hb => absurd (hX.symm.trans (h.of_latchD_busy hb)) nofun

theorem BusyChain.latchD_nop (h : BusyChain s) (hb : s.latchD.busy = true) : s.latchD.instr.op = .nop := by
  obtain ⟨-, hD, -⟩ := h
  rw [(hD hb).1]; rfl

/-- R41: an unprimed D is the busy bubble, which is not stalled. -/
theorem BusyChain.latchD_primed_of_stalled (h : BusyChain s) (hs : s.latchD.stalled = true) :
    s.latchD.busy = false := by
  obtain ⟨-, hD, -⟩ := h
  exact Bool.eq_false_iff.2 fun hb => absurd ((hD hb).1 ▸ hs) nofun

/-- R41: an unprimed X is the busy bubble, which is not stalled. -/
theorem BusyChain.latchX_primed_of_stalled (h : BusyChain s) (hs : s.latchX.stalled = true) : s.latchX.busy = false :=
  Bool.eq_false_iff.2 fun hb => absurd ((h.of_latchX_busy hb).1 ▸ hs) nofun

/-- R173: M is frozen only with the committed HALT in W. -/
theorem Shape.latchW_primed_of_latchM_stalled (hs : Shape s) (hM : s.latchM.stalled = true) :
    s.latchW.busy = false := by
  refine Bool.eq_false_iff.2 fun hb => ?_
  have hW := hs.busyChain.latchW_nop hb
  rcases hs.haltPhase with ⟨-, -, h, -⟩ | ⟨-, -, ⟨-, hX, e, -⟩ | ⟨-, -, h, -⟩ | ⟨-, -, h, -⟩⟩
  · exact absurd (h.symm.trans hM) nofun
  · simp [e, hX] at hM
  · exact absurd (h.symm.trans hM) nofun
  · exact absurd (h.symm.trans hW) nofun

/-- R173: X is frozen only with a HALT, or what it froze, in M. -/
theorem Shape.latchM_primed_of_latchX_frozen (hs : Shape s) (hX : s.latchX.frozen = true) : s.latchM.busy = false := by
  refine Bool.eq_false_iff.2 fun hb => ?_
  have hM := hs.busyChain.latchM_nop hb
  obtain ⟨hXs, hXi⟩ : s.latchX.stalled = true ∧ s.latchX.instr.op = .nop := by simpa [Latch.frozen] using hX
  rcases hs.haltPhase with ⟨-, hne, -⟩ | ⟨-, -, ⟨h, -⟩ | ⟨-, h, -⟩ | ⟨-, h, -⟩⟩
  · exact (hs.stalledStages.of_latchX_stalled hXs).elim hne fun e => absurd (hXi.symm.trans e) nofun
  · exact absurd (h.symm.trans hXi) nofun
  · exact absurd (h.symm.trans hM) nofun
  · exact absurd (h ▸ hb) nofun

/-- R173: D is frozen only with a HALT, or what it froze, in X. -/
theorem Shape.latchX_primed_of_latchD_frozen (hs : Shape s) (hD : s.latchD.frozen = true) : s.latchX.busy = false := by
  refine Bool.eq_false_iff.2 fun hb => ?_
  have hX := hs.busyChain.latchX_nop hb
  rcases hs.haltPhase with ⟨h, -⟩ | ⟨-, -, ⟨h, -⟩ | ⟨h, -⟩ | ⟨h, -⟩⟩
  · exact absurd (h.symm.trans hD) nofun
  · exact absurd (h.symm.trans hX) nofun
  · exact absurd (h ▸ hb) nofun
  · exact absurd (h ▸ hb) nofun

theorem writebackResult_latchM_busy (hc : BusyChain s) : (writebackResult s).latchM.busy = s.latchM.busy := by
  by_cases hh : HaltInWriteback s
  · rw [writebackResult_latchM_of_halt s hh, hc.latchM_primed hh.1]; rfl
  · rw [writebackResult_latchM_of_not_halt s hh]

/-- Memory primes W if M is primed. -/
theorem memoryStep_busy (h : MemoryStep s t) (hs : Shape s) :
    t.latchD.busy = s.latchD.busy ∧ t.latchX.busy = s.latchX.busy ∧ t.latchW.busy = s.latchM.busy := by
  have hc := hs.busyChain
  cases h with
  | idle hi =>
    refine ⟨rfl, rfl, ?_⟩
    change s.latchW.busy = s.latchM.busy
    rcases hi with hb | hst
    · rw [hb, (hc.of_latchM_busy hb).2]
    · have hW := hs.latchW_primed_of_latchM_stalled hst
      rw [hW, hc.latchM_primed hW]
  | redirect p live =>
    have hX := hc.latchX_primed live.1
    exact ⟨(hc.latchD_primed hX).symm, hX.symm, rfl⟩
  | halt live => exact ⟨rfl, (hc.latchX_primed live.1).symm, rfl⟩
  | plain => exact ⟨rfl, rfl, loadedLatch_busy s⟩

/-- Execute primes M if X is primed. -/
theorem executeStep_busy (h : ExecuteStep s t) (hs : Shape s) :
    t.latchD.busy = s.latchD.busy ∧ t.latchM.busy = s.latchX.busy := by
  have hc := hs.busyChain
  cases h with
  | idle hi =>
    refine ⟨rfl, ?_⟩
    change s.latchM.busy = s.latchX.busy
    rcases hi with hb | hf
    · rw [hb, (hc.of_latchX_busy hb).2]
    · have hM := hs.latchM_primed_of_latchX_frozen hf
      rw [hM, hc.latchX_primed hM]
  | hold hb => exact ⟨rfl, hb.symm⟩
  | halt hb => exact ⟨(hc.latchD_primed hb).symm, rfl⟩
  | plain => exact ⟨rfl, rfl⟩

/-- Decode primes X if D is primed. -/
theorem decodeStep_busy (h : DecodeStep s t) (hs : Shape s) : t.latchX.busy = s.latchD.busy := by
  have hc := hs.busyChain
  have primed (hX : s.latchX.busy = false) : s.latchX.busy = s.latchD.busy := hX.trans (hc.latchD_primed hX).symm
  cases h with
  | idle hi =>
    rcases hi with hb | hf
    · exact (hc.of_latchD_busy hb).trans hb.symm
    · exact primed (hs.latchX_primed_of_latchD_frozen hf)
  | lost hx => exact primed (hc.latchX_primed_of_stalled hx)
  | copy => rfl
  | wait _ _ hx => exact primed (hc.latchX_primed_of_stalled hx)
  | stall hb => exact hb.symm
  | forward => simp

/-- Fetch primes D. -/
theorem fetchStep_latchD_primed (h : FetchStep s t) (hc : BusyChain s) : t.latchD.busy = false := by
  cases h with
  | unprimed hb => exact absurd (hc.1.symm.trans hb) nofun
  | hold _ hd => exact hc.latchD_primed_of_stalled hd
  | release hb => exact hb
  | held _ _ hd => exact hc.latchD_primed_of_stalled hd
  | push => rfl

theorem fetchStep_older (h : FetchStep s t) :
    t.latchX = s.latchX ∧ t.latchM = s.latchM ∧ t.latchW = s.latchW := by cases h <;> exact ⟨rfl, rfl, rfl⟩

end

/-- Settles O40: each stage primes the latch it hands its instruction to exactly if its own is primed, and Fetch, which
is primed from the reset on, primes D. -/
theorem stagesPrimeInOrder : Obligations.StagesPrimeInOrder := by
  intro s t h ht
  obtain ⟨b, c, d, e, hm, hx, hd, hf, rfl⟩ := tick_steps ht.tick
  have shapeA := h.shape.writeback
  have shapeB := shapeA.memory hm
  have shapeC := shapeB.execute hx
  obtain ⟨memD, memX, memW⟩ := memoryStep_busy hm shapeA
  obtain ⟨exeD, exeM⟩ := executeStep_busy hx shapeB
  obtain ⟨eX, eM, eW⟩ := fetchStep_older hf
  have eD : e.latchD.busy = false := fetchStep_latchD_primed hf (shapeC.decode hd).busyChain
  refine ⟨eD, ?_, ?_, ?_⟩
  · calc e.latchX.busy = d.latchX.busy := by rw [eX]
      _ = c.latchD.busy := decodeStep_busy hd shapeC
      _ = b.latchD.busy := exeD
      _ = _ := memD
  · calc e.latchM.busy = c.latchM.busy := by rw [eM, decodeStep_latchM hd]
      _ = b.latchX.busy := exeM
      _ = _ := memX
  · calc e.latchW.busy = b.latchW.busy := by rw [eW, decodeStep_latchW hd, executeStep_latchW hx]
      _ = (writebackResult s).latchM.busy := memW
      _ = _ := writebackResult_latchM_busy h.busyChain

/-! ### A step from the turns of its stages -/

section
variable {s u : State}

theorem andThen_assoc (o : Result) (f g : State → Result) :
    andThen (andThen o f) g = andThen o fun s => andThen (f s) g := by
  cases o <;> rfl

/-- R101: a tick is its first four stages, Fetch, and the count. -/
theorem tick_eq_fourStages (s : State) :
    tick s = andThen (fourStages s) fun u => andThen (fetchStage u) fun t => .next { t with cyc := t.cyc + 1 } := by
  simp only [fourStages, andThen_assoc, tick]

/-- R118: a Fetch that holds nothing gives the instruction at PC to `exec`. -/
theorem fetchStage_exec {i : Instr} (hb : u.latchF.busy = false) (hs : u.latchF.stalled = false)
    (hi : fetchAt u u.pc = .ok i) : fetchStage u = exec i { u with turn := .fetch } := by
  have hi' : fetchAt { u with turn := .fetch } u.pc = .ok i := hi
  simp [fetchStage, hb, hs, hi']

/-- R103: the turns of unprimed stages change nothing but whose turn it is. -/
theorem fourStages_of_unprimed (hW : s.latchW.busy = true) (hM : s.latchM.busy = true) (hX : s.latchX.busy = true)
    (hD : s.latchD.busy = true) : fourStages s = .next { s with turn := .decode } := by
  simp [fourStages, writebackStage, memoryStage, executeStage, decodeStage, hW, hM, hX, hD]

end

/-- Settles O16: Fetch comes after the other four stages and, when it holds nothing, is the Fetch turn of the
instruction at PC, which always completes. -/
theorem stepRunsFetchedInstruction : Obligations.StepRunsFetchedInstruction := by
  intro s u i ticking hu hb hs
  refine ⟨fun hi => ⟨_, exec_fetch i _ rfl, ?_⟩, fun hW hM hX hD => ?_⟩
  · rw [step_ticking ticking, tick_eq_fourStages, hu, andThen_next, fetchStage_exec hb hs hi, exec_fetch i _ rfl,
      andThen_next]
  · exact Host.Outcome.next.inj (hu.symm.trans (fourStages_of_unprimed hW hM hX hD))

end Sys2Proof.Machine
end

section
/-! PROOFS. An instruction on its own (R232): the opcodes in the latches move on by one latch a tick, and what the
pipeline stands for is the instruction's sequential effect from the tick that fetches it. -/

namespace Sys2Proof.Machine

/-! ### Instructions that transfer no control -/

/-- R140 to R161, R174: no branch, no JUMP and no HALT. -/
structure Straight (op : Opcode) : Prop where
  bz : op ≠ .bz
  bnz : op ≠ .bnz
  jump : op ≠ .jump
  halt : op ≠ .halt

theorem straight_nop : Straight .nop := ⟨nofun, nofun, nofun, nofun⟩

section
variable {s t : State}

theorem redirectTarget_of_straight (h : Straight s.latchM.instr.op) : redirectTarget s = none := by
  obtain ⟨bz, bnz, jump, -⟩ := h
  unfold redirectTarget
  split <;> simp_all [Instr.op, Instr.toRecord]

theorem not_haltInWriteback_of_straight (h : Straight s.latchW.instr.op) : ¬ HaltInWriteback s := fun hh => h.halt hh.2

theorem not_redirects_of_straight (hW : Straight s.latchW.instr.op) (hM : Straight s.latchM.instr.op) (p : Word) :
    ¬ Redirects s p := by
  have hh := not_haltInWriteback_of_straight hW
  rw [redirects_iff hh, redirectTarget_of_straight (by rwa [writebackResult_latchM_of_not_halt s hh])]
  exact fun h => nomatch h.2

/-- An instruction that transfers no control discards what is behind it only by a fault. -/
theorem seqExec_alive_of_straight {i : Instr} {pc : Word} {a : Arch} (h : Straight i.op)
    (going : (seqExec s i pc a).arch.status = .going) : (seqExec s i pc a).alive = true := by
  obtain ⟨bz, bnz, jump, halt⟩ := h
  unfold seqExec at going ⊢
  cases i with
  | nop | add | sub | mul | and | or | xor | movc => rfl
  | load =>
    simp only [seqEffect, Flight.load] at going ⊢
    split at going <;> simp_all [Flight.dataFault, Flight.result]
  | store =>
    simp only [seqEffect, Flight.store] at going ⊢
    split at going <;> simp_all [Flight.dataFault]
  | bz => exact absurd rfl bz
  | bnz => exact absurd rfl bnz
  | jump => exact absurd rfl jump
  | halt => exact absurd rfl halt

/-- R181, R184: with a bad access in M, what is behind it does not count. -/
theorem pipeFlight_of_badAccess (hc : BusyChain s) (hh : ¬ HaltInWriteback s) (h : BadAccess s) :
    (pipeFlight s).alive = false := by
  obtain ⟨-, hi, hbad⟩ := h
  have dead : (finishM s (committed (writebackResult s))).alive = false := by
    have hnone := dataIndex_eq_none.2 hbad
    unfold finishM
    cases hm : s.latchM.instr with
    | load => simp [Flight.load, hnone, Flight.dataFault]
    | store => simp [Flight.store, hnone, Flight.dataFault]
    | _ => simp [hm, Instr.op, Instr.toRecord] at hi
  have stays {f : Flight} (hf : f.alive = false) (g : Arch → Flight) : (f.andThen g).alive = false := by
    rwa [Flight.andThen, if_neg (by simp [hf])]
  rw [pipeFlight, finishAll, finishW_committed hc hh, Flight.andThen_alive]
  exact stays (stays (stays dead _) _) _

end

/-! ### The opcodes in the latches, stage by stage -/

/-- `d`, `x`, `m` and `w` are the opcodes in D, X, M and W; X holds its instruction if `hold`, and neither Fetch nor
Decode does. -/
structure Slots (s : State) (hold : Bool) (d x m w : Opcode) : Prop where
  decode : s.latchD.instr.op = d
  execute : s.latchX.instr.op = x
  memory : s.latchM.instr.op = m
  writeback : s.latchW.instr.op = w
  fetchFree : s.latchF.stalled = false
  decodeFree : s.latchD.stalled = false
  held : s.latchX.stalled = hold

/-- R142: whether X, which holds its instruction if `hold`, holds it for another tick: in MUL's first cycle alone. -/
def mulHolds (hold : Bool) (x : Opcode) : Bool := decide (x = .mul) && !hold

section
variable {s t : State} {hold : Bool} {d x m w : Opcode}

theorem mulHolds_eq_true : mulHolds hold x = true ↔ x = .mul ∧ hold = false := by simp [mulHolds]

theorem mulHolds_of_ne (h : x ≠ .mul) : mulHolds hold x = false := by simp [mulHolds, h]

theorem Slots.afterWriteback (h : Slots s hold d x m w) (hw : Straight w) :
    Slots (writebackResult s) hold d x m w := by
  obtain ⟨hD, hX, hM, hW, hF, hDs, hXs⟩ := h
  have hh : ¬ HaltInWriteback s := not_haltInWriteback_of_straight (hW ▸ hw)
  exact ⟨hD, hX, by rwa [writebackResult_latchM_of_not_halt s hh], hW, hF, hDs, hXs⟩

theorem Slots.memoryStep (h : Slots s hold d x m w) (hc : BusyChain s) (hst : s.latchM.stalled = false)
    (hm : Straight m) (step : MemoryStep s t) : Slots t hold d x m m := by
  obtain ⟨hD, hX, rfl, -, hF, hDs, hXs⟩ := h
  cases step with
  | idle hi =>
    have hb : s.latchM.busy = true := by simpa [hst] using hi
    have hW := (hc.latchW_nop (hc.of_latchM_busy hb).2).trans (hc.latchM_nop hb).symm
    exact ⟨hD, hX, rfl, hW, hF, hDs, hXs⟩
  | redirect p live hp => exact absurd (hp.symm.trans (redirectTarget_of_straight hm)) nofun
  | halt live hi => exact absurd hi hm.halt
  | plain =>
    have hM : (loadedLatch s).instr.op = s.latchM.instr.op := by rw [loadedLatch_instr]
    exact ⟨hD, hX, hM, hM, hF, hDs, hXs⟩

theorem Slots.executeStep (h : Slots s hold d x m w) (hs : Shape s) (hx : Straight x) (step : ExecuteStep s t) :
    Slots t (mulHolds hold x) d x (if mulHolds hold x then .nop else x) w := by
  obtain ⟨hD, rfl, hM, hW, hF, hDs, rfl⟩ := h
  cases step with
  | idle hi =>
    have hb : s.latchX.busy = true := hi.resolve_right fun hf => by
      simp [hs.latchF_of_frozen_execute hf] at hF
    obtain ⟨hX, hMb⟩ := hs.busyChain.of_latchX_busy hb
    have hXn := hs.busyChain.latchX_nop hb
    have hMX := (hs.busyChain.latchM_nop hMb).trans hXn.symm
    rw [mulHolds_of_ne (by simp [hXn])]
    exact ⟨hD, rfl, hMX, hW, hF, hDs, congrArg Latch.stalled hX⟩
  | hold hb hi hst =>
    rw [mulHolds_eq_true.2 ⟨hi, hst⟩]
    exact ⟨hD, rfl, rfl, hW, hF, hDs, rfl⟩
  | halt hb hf hi => exact absurd hi hx.halt
  | plain hb hf hi hmul =>
    have free : mulHolds s.latchX.stalled s.latchX.instr.op = false := by
      simpa [mulHolds] using hmul
    rw [free]
    exact ⟨hD, rfl, rfl, hW, hF, hDs, hs.stalledStages.executedLatch_stalled hf⟩

/-- R109 to R111: with every register valid an instruction with no branch test has no hazard. -/
theorem decodeTurn_of_valid {i : Instr} (hi : Straight i.op) (hx : s.latchX.stalled = false)
    (valid : ∀ r, isValid s r = true) :
    ∃ a b, decodeTurn (sourcesOf i) (destOf i) (isBranch i.op && branchHazard s) s =
      forwardDecode a b (destOf i) s := by
  have hz : ¬ DecodeHazard s (sourcesOf i) (destOf i) (isBranch i.op && branchHazard s) := by
    rintro (⟨r, -, hstall⟩ | hbranch | ⟨r, -, hv⟩)
    · simp [resolveOperand, valid r] at hstall
    · simp [isBranch, hi.bz, hi.bnz] at hbranch
    · exact absurd ((valid r).symm.trans hv) nofun
  obtain ⟨a, b, -, -, e⟩ := decodeTurn_of_no_hazard hx hz
  exact ⟨a, b, e⟩

theorem decodeStage_of_valid (hb : s.latchD.busy = false) (hn : s.latchD.instr.op ≠ .nop)
    (hi : Straight s.latchD.instr.op) (hx : s.latchX.stalled = false) (valid : ∀ r, isValid s r = true) :
    ∃ a b, decodeStage s = .next (forwardDecode a b (destOf s.latchD.instr) { s with turn := .decode }) := by
  obtain ⟨a, b, e⟩ := decodeTurn_of_valid (s := { s with turn := .decode }) hi hx valid
  refine ⟨a, b, ?_⟩
  rw [decodeStage_exec, if_neg (by simp [hb, hn]), exec_decode hn rfl, e]

/-- Decode hands on a NOP, or an instruction that finds X free and every register valid. -/
theorem Slots.decodeStage (h : Slots s hold d x m w) (hs : Shape s)
    (ready : d = .nop ∨ hold = false ∧ Straight d ∧ ∀ r, isValid s r = true) (stage : decodeStage s = .next t) :
    Slots t hold d (if hold then x else d) m w := by
  obtain ⟨rfl, hX, hM, hW, hF, hDs, rfl⟩ := h
  by_cases hn : s.latchD.instr.op = .nop
  · cases decodeStage_step stage with
    | idle hi =>
      have hb : s.latchD.busy = true := hi.resolve_right (by simp [Latch.frozen, hDs])
      have hXb := hs.busyChain.of_latchD_busy hb
      have hXs : s.latchX.stalled = false := congrArg Latch.stalled (hs.busyChain.of_latchX_busy hXb).1
      have hXn := (hs.busyChain.latchX_nop hXb).trans hn.symm
      rw [hXs]
      exact ⟨rfl, hXn, hM, hW, hF, hDs, hXs⟩
    | lost hx =>
      rw [hx]
      exact ⟨rfl, hX, hM, hW, hF, hDs, hx⟩
    | copy hb hf hi hx =>
      rw [hx]
      exact ⟨rfl, rfl, hM, hW, hF, hDs, hDs⟩
    | wait _ hi => exact absurd hn hi
    | stall _ hi => exact absurd hn hi
    | forward _ _ _ hi => exact absurd hn hi
  · obtain ⟨hx, hi, valid⟩ := ready.resolve_left hn
    have hb : s.latchD.busy = false := Bool.eq_false_iff.2 fun hb => hn (hs.busyChain.latchD_nop hb)
    obtain ⟨a, b, e⟩ := decodeStage_of_valid hb hn hi hx valid
    cases e.symm.trans stage
    rw [hx]
    constructor <;> simp [hM, hW, hF]

theorem Slots.fetchStep (h : Slots s hold d x m w) (hF : s.latchF.busy = false) (step : FetchStep s t) :
    t.pc = nextPc s ∧ ∃ j, fetchAt s s.pc = .ok j ∧ Slots t hold j.op x m w := by
  obtain ⟨-, hX, hM, hW, hFs, hDs, hXs⟩ := h
  cases step with
  | unprimed hb => exact absurd (hF.symm.trans hb) nofun
  | hold hf => exact absurd (hFs.symm.trans hf) nofun
  | release _ hf => exact absurd (hFs.symm.trans hf) nofun
  | held _ _ hd => exact absurd (hDs.symm.trans hd) nofun
  | push j _ _ hj => exact ⟨rfl, j, hj, rfl, hX, hM, hW, rfl, rfl, hXs⟩

/-- R33: where the instructions that have left Execute write nothing and X holds none, every register is valid. -/
theorem WritersAfterExecute.isValid_of_nops {s : State} (h : WritersAfterExecute s) (hX : s.latchX.stalled = false)
    (hM : s.latchM.instr.op = .nop) (hW : s.latchW.instr.op = .nop) (r : Reg) : isValid s r = true := by
  have hr := h r
  simpa [claims_of_none (writerOf_of_nop hM), claims_of_none (writerOf_of_nop hW), hX, reserved, isValid] using hr

end

/-! ### A tick in which everything moves on -/

/-- No transfer of control is in X, M or W, and D holds a NOP, or an instruction with no producer in X or M. -/
structure Flows (d x m w : Opcode) : Prop where
  decode : d = .nop ∨ Straight d ∧ x = .nop ∧ m = .nop
  execute : Straight x
  memory : Straight m
  writeback : Straight w

section
variable {s t : State} {hold : Bool} {d x m w : Opcode}

/-- Every opcode moves on by one latch, but a MUL in its first Execute cycle. -/
theorem Slots.tick (h : Slots s hold d x m w) (flows : Flows d x m w) (inv : Inv s) (hM : s.latchM.stalled = false)
    (ht : Machine.tick s = .next t) :
    t.pc = nextPc s ∧ ∃ j, fetchAt s s.pc = .ok j ∧
      Slots t (mulHolds hold x) j.op (if mulHolds hold x then x else d) (if mulHolds hold x then .nop else x) m := by
  have inputs := tick_keepsInputs ht
  obtain ⟨a, b, c, u, e, hw, hm, hx, hd, hf, rfl⟩ := tick_eq_next.1 ht
  cases (writebackStage_eq s).symm.trans hw
  have stepM := memoryStage_step hm
  have stepX := executeStage_step hx
  have stepD := decodeStage_step hd
  have shapeA := inv.shape.writeback
  have shapeB := shapeA.memory stepM
  have shapeC := shapeB.execute stepX
  have hh : ¬ HaltInWriteback s := not_haltInWriteback_of_straight (h.writeback ▸ flows.writeback)
  have slotsA := h.afterWriteback flows.writeback
  have stalledA : (writebackResult s).latchM.stalled = false := by rwa [writebackResult_latchM_of_not_halt s hh]
  have slotsB := slotsA.memoryStep shapeA.busyChain stalledA flows.memory stepM
  have slotsC := slotsB.executeStep shapeB flows.execute stepX
  have ready : d = .nop ∨ mulHolds hold x = false ∧ Straight d ∧ ∀ r, isValid c r = true := by
    refine flows.decode.imp_right fun ⟨hd, hxn, hmn⟩ => ?_
    have free : mulHolds hold x = false := mulHolds_of_ne (by simp [hxn])
    have hMn := slotsC.memory
    rw [free, hxn] at hMn
    have hWn := slotsC.writeback.trans hmn
    exact ⟨free, hd, (inv.beforeDecode hm hx).writers.isValid_of_nops (slotsC.held.trans free) hMn hWn⟩
  have slotsD := slotsC.decodeStage shapeC ready hd
  obtain ⟨pcE, j, hj, slotsE⟩ := slotsD.fetchStep (shapeC.decode stepD).busyChain.1 (fetchStage_step hf)
  have pcU : u.pc = s.pc := by
    have hr := redirectTarget_of_straight (slotsA.memory ▸ flows.memory)
    rw [decodeStep_pc stepD, executeStep_pc stepX, memoryStep_pc stepM fun p _ => hr ▸ nofun,
      writebackResult_pc_of_not_halt s hh]
  have k : KeepsInputs s u := (writebackStage_keepsInputs (writebackStage_eq s)).trans <|
    (memoryStage_keepsInputs hm).trans <| (executeStage_keepsInputs hx).trans (decodeStage_keepsInputs hd)
  rw [k.fetchAt_eq, pcU] at hj
  rw [nextPc, pcU, k.params] at pcE
  obtain ⟨hD, hX, hM, hW, hF, hDs, hXs⟩ := slotsE
  exact ⟨pcE, j, hj, hD, hX, hM, hW, hF, hDs, hXs⟩

/-- A tick in which nothing is transferred and no access is bad completes, PC being on the grid (R180). -/
theorem Slots.tick_completes (h : Slots s hold d x m w) (flows : Flows d x m w) (inv : Inv s) (ticking : Ticking s)
    (alive : (pipeFlight s).alive = true) {j : Instr} (hj : fetchAt s s.pc = .ok j) : ∃ t, TickTo s t := by
  have hh : ¬ HaltInWriteback s := not_haltInWriteback_of_straight (h.writeback ▸ flows.writeback)
  cases e : step s with
  | next t => exact ⟨t, ticking, e⟩
  | refused r => exact absurd e (noRefusalAfterLaunch s r inv.launched.1)
  | fault f =>
    exfalso
    obtain ⟨hlo, hgrid⟩ := onGrid_of_fetchAt hj
    have hpc : PcOk s := .inl ⟨hlo, hgrid⟩
    rcases onlyTheseFaults s f inv hpc ticking e with ⟨bad, -⟩ | ⟨p, hr | ⟨rfl, -⟩, hfetch⟩
    · exact absurd (alive.symm.trans (pipeFlight_of_badAccess inv.busyChain hh bad)) nofun
    · exact not_redirects_of_straight (h.writeback ▸ flows.writeback) (h.memory ▸ flows.memory) p hr
    · rcases hfetch with ⟨-, below⟩ | ⟨-, -, off⟩
      · exact absurd hlo (not_le.2 below)
      · exact off hgrid

end

/-! ### What is in flight, tick by tick -/

section
variable {env s t : State} {a : Arch} {k : Nat} {hold : Bool} {d x m w : Opcode}

/-- `k` ticks from `env` nothing has been transferred and PC has moved on by a slot a tick; the opcodes in flight are
`d`, `x`, `m` and `w`, and to complete them gives `a`, but for its PC. -/
structure Coasts (env s : State) (a : Arch) (k : Nat) (hold : Bool) (d x m w : Opcode) : Prop where
  inv : Inv s
  running : s.status = .running
  inputs : KeepsInputs env s
  slots : Slots s hold d x m w
  depth : DepthOk s
  flight : pipeFlight s = ⟨{ a with pc := s.pc }, true⟩
  pc : s.pc.toInt = env.pc.toInt + k * env.params.insnWidth
  cyc : s.cyc = env.cyc + k

/-- A plain tick that moves PC on adds the instruction fetched. -/
theorem PlainTick.flight_of_fetched (h : PlainTick s t) (hM : s.latchM.stalled = false) (inputs : KeepsInputs env s)
    (hwidth : (1 : Int) ≤ s.params.insnWidth) (hpc : t.pc.toInt = s.pc.toInt + s.params.insnWidth)
    (flight : pipeFlight s = ⟨{ a with pc := s.pc }, true⟩) {j : Instr} (hj : fetchAt s s.pc = .ok j)
    (alive : (seqExec env j s.pc a).alive = true) :
    pipeFlight t = ⟨{ (seqExec env j s.pc a).arch with pc := t.pc }, true⟩ := by
  cases h with
  | keeps same pc =>
    rcases pc with pc | dead
    · rw [pc] at hpc
      omega
    · rw [same, flight] at dead
      cases dead
  | adds i adv =>
    obtain ⟨hi, -, -, e⟩ := adv
    have hdrained : drained s = { a with pc := s.pc } := by rw [drained_eq hM, flight]
    rw [hdrained] at hi e
    cases hj.symm.trans hi
    calc pipeFlight t = seqExec s j s.pc { a with pc := t.pc } := e
      _ = seqExec env j s.pc { a with pc := t.pc } := inputs.seqEffect_eq ..
      _ = (seqExec env j s.pc a).withPc t.pc := (seqExec_passesOn env j s.pc).pc a t.pc
      _ = _ := if_pos alive

/-- What a tick that fetches `j` adds to what is in flight is the sequential effect of `j`. -/
theorem Coasts.tick (h : Coasts env s a k hold d x m w) (flows : Flows d x m w) (hterm : s.pc.toInt < termPc env)
    (hbudget : env.cyc + k < env.config.cycleBudget) {j : Instr} (hj : fetchAt env s.pc = .ok j)
    (alive : (seqExec env j s.pc a).alive = true) :
    ∃ t, step s = .next t ∧ Coasts env t (seqExec env j s.pc a).arch (k + 1) (mulHolds hold x) j.op
      (if mulHolds hold x then x else d) (if mulHolds hold x then .nop else x) m := by
  obtain ⟨inv, running, inputs, slots, depth, flight, pc, cyc⟩ := h
  have hj : fetchAt s s.pc = .ok j := by rwa [inputs.fetchAt_eq]
  have hterm : s.pc.toInt < termPc s := by rwa [inputs.termPc_eq]
  have ticking : Ticking s := ⟨running, hterm, by rwa [inputs.config, cyc]⟩
  have hM := inv.latchM_not_stalled ticking
  have hW : Straight s.latchW.instr.op := slots.writeback ▸ flows.writeback
  obtain ⟨t, ht⟩ := slots.tick_completes flows inv ticking (by rw [flight]) hj
  obtain ⟨pcT, j', hj', slotsT⟩ := slots.tick flows inv hM ht.tick
  cases hj.symm.trans hj'
  have inputsT := tick_keepsInputs ht.tick
  have pcT' : t.pc.toInt = s.pc.toInt + s.params.insnWidth := by rw [pcT]; exact inv.launched.wrap_next hterm
  obtain ⟨runningT, -, -, cycT⟩ := tick_commits ht.tick
  obtain ⟨u, e, before, hf, rfl⟩ := tick_beforeFetch inv hM (not_haltInWriteback_of_straight hW)
    (not_redirects_of_straight hW (slots.memory ▸ flows.memory)) depth ht.tick
  obtain ⟨depthT, -⟩ := depthOk_of_fetch inv.launched hterm before inputsT hf rfl
  have flightT := (plainTick_of_fetch before hM hf).flight_of_fetched hM inputs inv.launched.width_pos pcT' flight hj
    alive
  refine ⟨_, ht.answers, tick_keepsInv inv ht.tick, runningT.trans running, inputs.trans inputsT, slotsT, depthT,
    flightT, ?_, ?_⟩
  · rw [pcT', pc, inputs.params]
    push_cast
    ring
  · rw [cycT, cyc, Nat.add_assoc]

/-- PC is at the last slot of a launched program with five drain slots or more. -/
structure LastSlot (env : State) : Prop where
  launched : Launched env
  grid : OnGrid env env.pc
  last : env.pc.toInt + env.params.insnWidth = endPc env
  margin : 5 ≤ env.params.drainMargin

/-- R12, R222: the six fetches from the last slot on are before TERM_PC. -/
theorem LastSlot.before_termPc (h : LastSlot env) {p : Word} (hp : p.toInt = env.pc.toInt + k * env.params.insnWidth)
    (hk : k ≤ 5) : p.toInt < termPc env := by
  have hwidth := h.launched.width_pos
  have hmargin := endPc_add_five_le h.margin
  have hkw : (k * env.params.insnWidth : Int) ≤ 5 * env.params.insnWidth := by
    exact_mod_cast Nat.mul_le_mul_right _ hk
  have := h.last
  omega

/-- R62: behind the last slot there are NOPs. -/
theorem LastSlot.fetchAt_behind (h : LastSlot env) {p : Word} (hp : p.toInt = env.pc.toInt + k * env.params.insnWidth)
    (hk : 1 ≤ k) : fetchAt env p = .ok (.nop 0 0 0 0) := by
  obtain ⟨hlo, hgrid⟩ := h.grid
  have hkw : (env.params.insnWidth : Int) ≤ k * env.params.insnWidth := by
    exact_mod_cast Nat.le_mul_of_pos_left _ hk
  have := h.last
  refine fetchAt_past_end (by omega) ?_ (by omega)
  rw [hp, add_sub_right_comm, Int.add_mul_emod_self_right, hgrid]

/-- Once the last slot has been fetched a tick fetches a NOP, which has no effect. -/
theorem Coasts.drain (h : Coasts env s a k hold d x m w) (slot : LastSlot env) (hk : 1 ≤ k ∧ k ≤ 5)
    (hbudget : env.cyc + k < env.config.cycleBudget) (flows : Flows d x m w) :
    ∃ t, step s = .next t ∧ Coasts env t a (k + 1) (mulHolds hold x) .nop
      (if mulHolds hold x then x else d) (if mulHolds hold x then .nop else x) m :=
  h.tick flows (slot.before_termPc h.pc hk.2) hbudget (slot.fetchAt_behind h.pc hk.1) rfl

/-- The opcodes move on by one latch unless X holds a MUL in its first cycle. -/
theorem Coasts.drain_free (h : Coasts env s a k hold d x m w) (slot : LastSlot env) (hk : 1 ≤ k ∧ k ≤ 5)
    (hbudget : env.cyc + k < env.config.cycleBudget) (flows : Flows d x m w) (free : x = .mul → hold = true) :
    ∃ t, step s = .next t ∧ Coasts env t a (k + 1) false .nop d x m := by
  have e : mulHolds hold x = false := by simpa [mulHolds] using free
  simpa [e] using h.drain slot hk hbudget flows

theorem run_succ {n : Nat} (h : step s = .next t) : Sys2Proof.core.run (n + 1) s = Sys2Proof.core.run n t := by
  simp [Host.Core.run, core, h]

/-- Nothing in flight, nothing to complete. -/
theorem Quiet.coasts (h : Quiet s) (inv : Inv s) (running : s.status = .running) :
    Coasts s s (committed s) 0 false .nop .nop .nop .nop := by
  obtain ⟨⟨hD, hDs⟩, ⟨hX, hXs⟩, ⟨hM, -⟩, ⟨hW, -⟩, hF⟩ := h
  have notHeld (P : Prop) (hst : s.latchF.stalled = true) : P := absurd (hF.symm.trans hst) nofun
  have flight : pipeFlight s = ⟨committed s, true⟩ := by
    rw [pipeFlight_of_nops hM hX hD (notHeld _), finishW_nop hW]
  exact ⟨inv, running, .refl s, ⟨hD, hX, hM, hW, hF, hDs, hXs⟩,
    ⟨notHeld _, within_of_nop hD, within_of_nop hX, within_of_nop hM⟩, flight, by simp, rfl⟩

/-- An instruction that leaves X needs a tick to M, one to W and one to commit. -/
theorem Coasts.drain_execute (h : Coasts env s a k hold .nop x .nop .nop) (slot : LastSlot env) (hx : Straight x)
    (free : x = .mul → hold = true) (hk : 1 ≤ k ∧ k ≤ 3) (hbudget : env.cyc + k + 3 ≤ env.config.cycleBudget) :
    ∃ t, Sys2Proof.core.run 3 s = .next t ∧ Coasts env t a (k + 3) false .nop .nop .nop .nop := by
  have inX : Flows .nop x .nop .nop := ⟨.inl rfl, hx, straight_nop, straight_nop⟩
  have inM : Flows .nop .nop x .nop := ⟨.inl rfl, straight_nop, hx, straight_nop⟩
  have inW : Flows .nop .nop .nop x := ⟨.inl rfl, straight_nop, straight_nop, hx⟩
  obtain ⟨t, ht, h⟩ := h.drain_free slot ⟨hk.1, by omega⟩ (by omega) inX free
  obtain ⟨u, hu, h⟩ := h.drain_free slot ⟨by omega, by omega⟩ (by omega) inM nofun
  obtain ⟨v, hv, h⟩ := h.drain_free slot ⟨by omega, by omega⟩ (by omega) inW nofun
  exact ⟨v, (run_succ ht).trans ((run_succ hu).trans (run_succ hv)), h⟩

/-- With NOPs alone in flight the machine has committed what it stands for, and no register is reserved. -/
theorem Coasts.committed (h : Coasts env s a k hold .nop .nop .nop .nop) :
    Machine.committed s = { a with pc := s.pc } ∧ ∀ r, isValid s r = true := by
  obtain ⟨inv, -, -, ⟨hD, hX, hM, hW, hF, -, -⟩, -, flight, -, -⟩ := h
  rw [pipeFlight_of_nops hM hX hD fun hst => absurd (hF.symm.trans hst) nofun, finishW_nop hW] at flight
  exact ⟨congrArg Flight.arch flight,
    inv.singleWriter.isValid_of_idle (writerOf_of_nop hX) (writerOf_of_nop hM) (writerOf_of_nop hW)⟩

/-- R120, R142: an instruction in D needs a tick to X and three from there, a MUL one more for its first cycle. -/
theorem Coasts.drain_decode (h : Coasts env s a 1 false d .nop .nop .nop) (slot : LastSlot env) (hd : Straight d)
    (hbudget : env.cyc + (if d = .mul then 6 else 5) ≤ env.config.cycleBudget) :
    ∃ t, Sys2Proof.core.run (if d = .mul then 5 else 4) s = .next t ∧
      Coasts env t a (if d = .mul then 6 else 5) false .nop .nop .nop .nop := by
  have hbudget5 : env.cyc + 5 ≤ env.config.cycleBudget := by split_ifs at hbudget <;> omega
  obtain ⟨t, ht, h⟩ := h.drain_free slot (by decide) (by omega)
    ⟨.inr ⟨hd, rfl, rfl⟩, straight_nop, straight_nop, straight_nop⟩ nofun
  by_cases hmul : d = .mul
  · subst hmul
    obtain ⟨u, hu, h⟩ := h.drain slot (by decide) (by omega) ⟨.inl rfl, hd, straight_nop, straight_nop⟩
    obtain ⟨v, hv, h⟩ := h.drain_execute slot hd (fun _ => rfl) (by decide) hbudget
    exact ⟨v, (run_succ ht).trans ((run_succ hu).trans hv), h⟩
  · rw [if_neg hmul, if_neg hmul]
    obtain ⟨v, hv, h⟩ := h.drain_execute slot hd (absurd · hmul) (by decide) hbudget5
    exact ⟨v, (run_succ ht).trans hv, h⟩

end

/-- Settles O57: the first tick fetches the instruction, the others fetch NOPs and take it through the latches to its
commit; completing what is in flight gives its sequential effect after every one of them. -/
theorem loneInstructionCompletes : Obligations.LoneInstructionCompletes := by
  intro s i inv running quiet hi hend margin bz bnz jump halt n a hbudget going
  have straight : Straight i.op := ⟨bz, bnz, jump, halt⟩
  have slot : LastSlot s := ⟨inv.launched, onGrid_of_fetchAt hi, hend, margin⟩
  have hn : 5 ≤ n := by simp only [n]; split_ifs <;> decide
  have start := quiet.coasts inv running
  obtain ⟨t, ht, fetched⟩ := start.tick ⟨.inl rfl, straight_nop, straight_nop, straight_nop⟩
    (slot.before_termPc start.pc (by decide)) (by omega) hi (seqExec_alive_of_straight straight going)
  obtain ⟨u, hu, drained⟩ := fetched.drain_decode slot straight hbudget
  obtain ⟨e, valid⟩ := drained.committed
  have hrun : Sys2Proof.core.run n s = .next u := by
    rw [← hu, ← run_succ ht]
    simp only [n]
    split_ifs <;> rfl
  exact ⟨u, hrun, congrArg Arch.regs e, congrArg Arch.z e, congrArg Arch.dmem e, congrArg Arch.done e, drained.cyc,
    valid⟩

end Sys2Proof.Machine
end

section
/-! PROOFS. The launch and the word loader (10_state.md section 8, 20_memory.md section 2): a launch establishes what
every step keeps, reset is such a launch, and a word put where the next step fetches is what that step runs. -/

namespace Sys2Proof.Machine

/-! ### What a launch establishes -/

section
variable {s t : State}

theorem launch_inv (ht : launch s = .next t) : Inv t := by
  obtain ⟨hparams, valid, rfl⟩ := launch_eq_next.1 ht
  exact inv_restart hparams valid

/-- R13, R48: the launch puts PC on CODE_BASE, which the checked parameters keep in the address space. -/
theorem launch_pcOk (ht : launch s = .next t) : PcOk t := by
  obtain ⟨⟨⟨hwidth, -, hlo, hle, hhi⟩, -⟩, -, rfl⟩ := launch_eq_next.1 ht
  have hpc : (restart s).pc.toInt = s.params.codeBase := wrap32_toInt hlo (by omega)
  exact .inl ⟨hpc.ge, by rw [hpc]; simp [restart]⟩

end

/-- Settles O12: the launch resets to primed Fetch alone, PC at CODE_BASE and both counters 0, and reads DMEM_init as it
is. -/
theorem launchMeetsInvariants : Obligations.LaunchMeetsInvariants := by
  intro s t hs memory hstep
  have ht : launch s = .next t := step_launching hs ▸ hstep
  exact ⟨launch_inv ht, launch_keepsMemoryOk memory ht, launch_countersOk ht, launch_pcOk ht⟩

/-- Settles O11: the reference parameters pass the checks, an empty program validates, and the reset of it is
`State.reset`. -/
theorem resetIsTheReferenceLaunch : Obligations.ResetIsTheReferenceLaunch :=
  (step_launching rfl).trans (launch_eq_next.2 ⟨by unfold ParamsOk; decide, rfl, rfl⟩)

/-- Settles O13: the reset state is a launch's next state, and the reference data memory lists nothing. -/
theorem resetMeetsInvariants : Obligations.ResetMeetsInvariants :=
  launchMeetsInvariants _ _ rfl ⟨rfl, rfl⟩ resetIsTheReferenceLaunch

/-! ### The word put where the next step fetches -/

theorem decodeTableWord_eq_some {nbits w : Nat} {i : Instr} :
    decodeTableWord nbits w = some i ↔ decode (BitVec.ofNat 64 (w % 2 ^ nbits)) = .ok i := by
  unfold decodeTableWord
  cases decode (BitVec.ofNat 64 (w % 2 ^ nbits)) <;> simp

theorem placeSlot_getElem? (slots : List Slot) (k : Nat) (slot : Slot) : (placeSlot slots k slot)[k]? = some slot := by
  induction k generalizing slots with
  | zero => cases slots <;> rfl
  | succ k ih => cases slots <;> simp [placeSlot, ih]

section
variable {s : State}

/-- R62: the number of the instruction slot at address `p`. -/
def slotAt (s : State) (p : Word) : Nat := ((p.toInt - s.params.codeBase) / s.params.insnWidth).toNat

theorem OnGrid.toInt_eq {p : Word} (h : OnGrid s p) :
    p.toInt = s.params.codeBase + s.params.insnWidth * (slotAt s p : Nat) := by
  obtain ⟨hlo, hgrid⟩ := h
  have hnonneg : 0 ≤ (p.toInt - s.params.codeBase) / s.params.insnWidth := Int.ediv_nonneg (by omega) (by omega)
  rw [slotAt, Int.toNat_of_nonneg hnonneg, Int.mul_ediv_cancel' (Int.dvd_of_emod_eq_zero hgrid)]
  omega

/-- R12: a slot of the program lies before TERM_PC. -/
theorem slot_before_termPc {p : Word} {k : Nat} {slot : Slot}
    (hp : p.toInt = s.params.codeBase + s.params.insnWidth * (k : Nat)) (hwidth : 1 ≤ s.params.insnWidth)
    (hk : s.imem[k]? = some slot) : p.toInt < termPc s := by
  have hlen : k < s.imem.length := (List.getElem?_eq_some_iff.1 hk).1
  have : (s.params.insnWidth : Int) * (k : Nat) < s.params.insnWidth * (s.imem.length + s.params.drainMargin) := by
    exact_mod_cast Nat.mul_lt_mul_of_pos_left (Nat.lt_add_right _ hlen) hwidth
  simp only [termPc, Params.termPc, State.progLen]
  omega

theorem loadWord_onGrid (w : BitVec 64) (hlo : -2 ^ 31 ≤ s.params.codeBase) (hhi : s.params.codeBase < 2 ^ 31) :
    OnGrid s (loadWord s w).pc := by
  cases h : onGrid s
  · have hpc : (loadWord s w).pc = wrap32 s.params.codeBase := by simp [loadWord, h]
    simp [OnGrid, hpc, wrap32_toInt hlo hhi]
  · have hpc : (loadWord s w).pc = s.pc := by simp [loadWord, h]
    simpa [OnGrid, hpc, onGrid] using h

theorem loadWord_imem (w : BitVec 64) :
    (loadWord s w).imem[slotAt s (loadWord s w).pc]? = some (.packed w) := placeSlot_getElem? ..

/-- The loader leaves a tick to make, and the word's slot is the one that tick fetches. -/
theorem loadWord_ticks (w : BitVec 64) (hwidth : 1 ≤ s.params.insnWidth) (hgrid : OnGrid s (loadWord s w).pc) :
    Ticking (loadWord s w) :=
  ⟨rfl, slot_before_termPc (s := loadWord s w) hgrid.toInt_eq hwidth (loadWord_imem w), by simp [loadWord]⟩

theorem loadWord_fetchAt {w : BitVec 64} {i : Instr} (hi : decode w = .ok i) (hwidth : 1 ≤ s.params.insnWidth)
    (hgrid : OnGrid s (loadWord s w).pc) : fetchAt (loadWord s w) (loadWord s w).pc = .ok i := by
  rw [fetchAt_slot (s := loadWord s w) hgrid.toInt_eq hwidth (loadWord_imem w)]
  simp only [slotInstr, hi]

end

/-- Settles O17: with no older stage primed, the next step is `exec` of the instruction fetched at PC, which is the word
that the loader put there. -/
theorem fetchWordIsRun : Obligations.FetchWordIsRun := by
  intro s nbits w i hw hwidth hlo hhi
  have hgrid := loadWord_onGrid (BitVec.ofNat 64 (w % 2 ^ nbits)) hlo hhi
  have hi := loadWord_fetchAt (decodeTableWord_eq_some.1 hw) hwidth hgrid
  have unprimed := fourStages_of_unprimed (s := s.withFetchWord nbits w) rfl rfl rfl rfl
  exact (stepRunsFetchedInstruction _ _ i (loadWord_ticks _ hwidth hgrid) unprimed rfl rfl).1 hi

end Sys2Proof.Machine
end
